-- ==== Sys2Proof/Word.lean ====
section
/-! DEFINITION. The word types: one name per register width of spec/10_state.md (rule R6: a register of width N holds
an unsigned integer below `2^N`, bit 0 the least significant). -/

namespace Sys2Proof

/-- A raw sample, 12 bits (R11; ADC_BITS of R4). -/
abbrev Sample := BitVec 12

/-- A screen coordinate, 8 bits (R12). -/
abbrev Coord := BitVec 8

/-- A PWM duty level, 16 bits (R13). -/
abbrev Duty := BitVec 16

/-- A reading of the microsecond counter, 32 bits (R14, R15, R47; NOW_BITS of R4). -/
abbrev Stamp := BitVec 32

/-- A value of the phase register, 4 bits (R17). -/
abbrev Phase := BitVec 4

/-- An ADC channel number, 1 bit (R16, R41). -/
abbrev Channel := BitVec 1

end Sys2Proof
end

