-- ==== Sys2Proof/Syntax.lean ====
section
/-! DEFINITION. The operations (rule R63), the codes that name them (R60, R61), and the words in which a run is
written: agents (R9), interrupt lines (R41), environment events (R66), turns, output events (R48, R49), trace
lines (R65) and the pseudo-operations that stand for them (R67). -/

namespace Sys2Proof

/-- The two agents of the block (R9): the main-loop sequencer and the edge dispatcher. -/
inductive Agent where
  | seq
  | disp
deriving DecidableEq, Repr

/-- The interrupt lines (R41): line A is button A (index 0), line J the joystick button (index 1). -/
inductive Line where
  | a
  | j
deriving DecidableEq, Repr, Inhabited

/-- The 16 operations of the block, one constructor per row of the opcode table (R60, R61, R63). No operation
has an operand field or an immediate (R62). -/
inductive Instr where
  | smpx
  | smpy
  | mapx
  | mapy
  | clpx
  | clpy
  | rndr
  | rsmx
  | rsmy
  | pwmx
  | pwmy
  | diag
  | dlys
  | dlyw
  | irqa
  | irqj
deriving DecidableEq, Repr

/-- The agent that executes an operation (the "agent" column of the opcode table; R63). -/
def Instr.agent : Instr → Agent
  | .smpx | .smpy | .mapx | .mapy | .clpx | .clpy | .rndr => .seq
  | .rsmx | .rsmy | .pwmx | .pwmy | .diag | .dlys | .dlyw => .seq
  | .irqa | .irqj => .disp

/-- The code that names an operation: format SEQ is 4 bits (R60), format IRQ is 1 bit (R61). The two formats are
two code spaces: a code carries its format. -/
inductive Code where
  | seq (bits : BitVec 4)
  | irq (bit : BitVec 1)
deriving DecidableEq, Repr

/-- The environment's steps (R9, R66): a falling edge on a line (R100), an advance of true time (R47), reset
(R155). The environment has no other step (R158). -/
inductive EnvEvent where
  | edga
  | edgj
  | time (us : Nat)
  | rst
deriving DecidableEq, Repr

/-- Who takes the next atomic step (R9, R54): the block (SEQ or DISP, as their enabling conditions say) or the
environment. -/
inductive Turn where
  | block
  | env (e : EnvEvent)
deriving DecidableEq, Repr, Inhabited

/-- The output events (R48, R49). -/
inductive OutEvent where
  | render (x y : Coord) (thick fill : Bool)
  | diag
deriving DecidableEq, Repr

/-- One line of a trace (R65): an operation with the inputs its step consumed (`adc=`, `now=`), or an environment
event. Time advance is no line of its own: it shows in the `now=` arguments. -/
inductive TraceLine where
  | op (i : Instr) (adc : Option Sample) (now : Option Stamp)
  | edga
  | edgj
  | rst
deriving DecidableEq, Repr

/-- Whether a line is an edge event (R66, R67). -/
def TraceLine.isEdge : TraceLine → Bool
  | .edga | .edgj => true
  | .op _ _ _ | .rst => false

/-- The pseudo-operations (R67): shorthand for a few lines of a trace. -/
inductive Pseudo where
  | tick (ax ay : Sample) (t0 t1 : Stamp)
  | tick2 (ax ay bx bY : Sample) (t0 t1 : Stamp)
  | pressA (t : Stamp)
  | pressJ (t : Stamp)
deriving DecidableEq, Repr

/-- What a written run is made of: lines (R65) and pseudo-operations (R67). -/
inductive Written where
  | line (l : TraceLine)
  | pseudo (p : Pseudo)
deriving DecidableEq, Repr

end Sys2Proof
end

