-- ==== Sys2Proof/Config.lean ====
section
/-! DEFINITION. The implementation parameters of rule R4 (the source's constants as definitions, the parameters that
rule R5 constrains or that are OPEN as fields of `Config`), and the free values: opaque constants that nothing
in Lean can evaluate. -/

namespace Sys2Proof

/-- IRQ_PRIORITY (R4, R137): which line is served first when both latches are set. -/
inductive IrqPriority where
  | aFirst
  | jFirst
  | any
deriving DecidableEq, Repr

/-- The parameters of R4 that R5 constrains or that are OPEN. They are wired in and no step writes them (R23). -/
structure Config where
  /-- CH_X: the ADC channel of the X axis (OPEN, D17). -/
  chX : Nat
  /-- CH_Y: the ADC channel of the Y axis (OPEN, D17). -/
  chY : Nat
  /-- CENTER_X: the calibration centre of the X axis. -/
  centerX : Nat
  /-- CENTER_Y: the calibration centre of the Y axis. -/
  centerY : Nat
  /-- SCREEN_H: the display height in pixels (OPEN, D5). -/
  screenH : Nat
  /-- SMAX_X: `screen_max` passed to the mapper for X. -/
  smaxX : Nat
  /-- SMAX_Y: `screen_max` passed to the mapper for Y. -/
  smaxY : Nat
  /-- INVERT_X: whether MAPX reflects the X coordinate (OPEN, D6). -/
  invertX : Bool
  /-- RESAMPLE_PWM: whether phases 7 and 8 sample again (OPEN, D3). -/
  resamplePwm : Bool
  /-- FILL_RESET: the reset value of `fill_variant` (OPEN, D9). -/
  fillReset : Bool
  /-- IRQ_PRIORITY (OPEN, D14). -/
  irqPriority : IrqPriority
deriving DecidableEq, Repr

namespace Config

/-- ADC_MAX (R4). -/
def adcMax : Nat := 4095
/-- DEADZONE (R4). -/
def deadzone : Nat := 40
/-- DUTY_MAX (R4). -/
def dutyMax : Nat := 65535
/-- SCREEN_W (R4). -/
def screenW : Nat := 128
/-- SQUARE (R4). -/
def square : Nat := 8
/-- MARGIN (R4). -/
def margin : Nat := 1
/-- THICK_ON (R4). -/
def thickOn : Nat := 3
/-- THICK_OFF (R4). -/
def thickOff : Nat := 1
/-- DEBOUNCE_US (R4). -/
def debounceUs : Nat := 200000
/-- TICK_DELAY_US (R4). -/
def tickDelayUs : Nat := 50000

/-- The default of every parameter (R4). -/
def default : Config where
  chX := 0
  chY := 1
  centerX := 1939
  centerY := 2180
  screenH := 64
  smaxX := 119
  smaxY := 55
  invertX := false
  resamplePwm := false
  fillReset := false
  irqPriority := .any

/-- FREE VALUE: the ADC's answer for a channel when no answer is listed (R44, U7: a fresh draw, any value in
range). -/
opaque adcDraw : Channel → Nat → Sample

/-- FREE VALUE: who moves next when no turn is listed (R9, R54, R158: any interleaving, any event, any amount of
time). -/
opaque turnDraw : Nat → Turn

/-- FREE VALUE: the line served first under IRQ_PRIORITY = ANY when none is listed (R137, U6: both orders are
admitted). -/
opaque lineDraw : Nat → Line

/-- FREE VALUE: the true time at reset (R47, R156, U8: arbitrary). -/
opaque timeAtReset : Nat

end Config

end Sys2Proof
end

