-- ==== Sys2Proof/WellFormed.lean ====
section
/-! DEFINITION. The checks: a configuration is well-formed (rule R5), a trace line names exactly the inputs its
operation consumes (R65). An operation has no operand (R62), so every term of `Instr` is well-formed. -/

namespace Sys2Proof

namespace Config

/-- R5: a centre keeps more than DEADZONE from both rails. -/
def centreOk (center : Nat) : Bool :=
  decide (deadzone < center) && decide (deadzone < adcMax - center)

/-- R5: `CH_X != CH_Y`, both in {0, 1}. -/
def channelsOk (c : Config) : Bool :=
  decide (c.chX < 2) && decide (c.chY < 2) && decide (c.chX ≠ c.chY)

/-- R5: `14 <= SCREEN_H <= 256`. -/
def screenOk (c : Config) : Bool :=
  decide (14 ≤ c.screenH) && decide (c.screenH ≤ 256)

/-- R5: SMAX_X and SMAX_Y are what is left of the screen. -/
def smaxOk (c : Config) : Bool :=
  decide (c.smaxX = screenW - square - margin) && decide (c.smaxY = c.screenH - square - margin)

/-- R5: a well-formed configuration. -/
def wellFormed (c : Config) : Bool :=
  centreOk c.centerX && centreOk c.centerY && c.channelsOk && c.screenOk && c.smaxOk

end Config

/-- Whether the operation calls `AdcRead()` (R65, R75). -/
def Instr.takesAdc : Instr → Bool
  | .smpx | .smpy | .rsmx | .rsmy => true
  | .mapx | .mapy | .clpx | .clpy | .rndr | .pwmx | .pwmy | .diag | .dlys | .dlyw | .irqa | .irqj => false

/-- Whether the operation calls `Now()` (R65, R142). -/
def Instr.takesNow : Instr → Bool
  | .irqa | .irqj | .dlys | .dlyw => true
  | .smpx | .smpy | .mapx | .mapy | .clpx | .clpy | .rndr | .rsmx | .rsmy | .pwmx | .pwmy | .diag => false

/-- R65: an operation's line names the ADC answer if and only if it reads the ADC, and the counter's value if and
only if it reads the counter. -/
def TraceLine.wellFormed : TraceLine → Bool
  | .op i adc now => adc.isSome == i.takesAdc && now.isSome == i.takesNow
  | .edga => true
  | .edgj => true
  | .rst => true

end Sys2Proof
end

