-- ==== Sys2Proof/Decode.lean ====
section
/-! DEFINITION. The decoder of rule R63 over the tables of R60 and R61, total on every code and rejecting the
reserved ones by name (R64); the encoder from the same tables; and the reading of a table row's word. -/

namespace Sys2Proof

/-- Why a code names no operation. -/
inductive DecodeReject where
  /-- Format SEQ, 14 or 15: the code names no operation (R64). -/
  | reservedPhase
deriving DecidableEq, Repr

/-- Format SEQ (R60). -/
def decodeSeq (b : BitVec 4) : Except DecodeReject Instr :=
  match b.toNat with
  | 0 => .ok .smpx
  | 1 => .ok .smpy
  | 2 => .ok .mapx
  | 3 => .ok .mapy
  | 4 => .ok .clpx
  | 5 => .ok .clpy
  | 6 => .ok .rndr
  | 7 => .ok .rsmx
  | 8 => .ok .rsmy
  | 9 => .ok .pwmx
  | 10 => .ok .pwmy
  | 11 => .ok .diag
  | 12 => .ok .dlys
  | 13 => .ok .dlyw
  | _ => .error .reservedPhase

/-- Format IRQ (R61): both values of the bit are used (R64). -/
def decodeIrq (b : BitVec 1) : Except DecodeReject Instr :=
  match b.toNat with
  | 0 => .ok .irqa
  | _ => .ok .irqj

/-- The decoder (R63). -/
def decode : Code → Except DecodeReject Instr
  | .seq b => decodeSeq b
  | .irq b => decodeIrq b

/-- The encoder: each operation's code, bit by bit as the tables of R60 and R61 write it. -/
def encode : Instr → Code
  | .smpx => .seq 0b0000#4
  | .smpy => .seq 0b0001#4
  | .mapx => .seq 0b0010#4
  | .mapy => .seq 0b0011#4
  | .clpx => .seq 0b0100#4
  | .clpy => .seq 0b0101#4
  | .rndr => .seq 0b0110#4
  | .rsmx => .seq 0b0111#4
  | .rsmy => .seq 0b1000#4
  | .pwmx => .seq 0b1001#4
  | .pwmy => .seq 0b1010#4
  | .diag => .seq 0b1011#4
  | .dlys => .seq 0b1100#4
  | .dlyw => .seq 0b1101#4
  | .irqa => .irq 0b0#1
  | .irqj => .irq 0b1#1

/-- The code of the dispatcher operation that serves a line (R61). -/
def Line.code : Line → Code
  | .a => .irq 0b0#1
  | .j => .irq 0b1#1

/-- The code that a row's word `w` of `nbits` bits stands for. A width of one bit is format IRQ; every other width
is format SEQ, whose codes are below 16. DESIGN CHOICE, see log entry 6: the table's two formats share the words
0 and 1, and a width in whole bytes is 8 for both, so the width 8 is read as SEQ. -/
def codeOfWord (nbits w : Nat) : Option Code :=
  if nbits = 1 then
    if w < 2 then some (.irq (BitVec.ofNat 1 w)) else none
  else
    if w < 16 then some (.seq (BitVec.ofNat 4 w)) else none

/-- The operation the decoder reads from a row's word, `none` where it rejects. -/
def decodeTableWord (nbits w : Nat) : Option Instr :=
  match codeOfWord nbits w with
  | some c => (decode c).toOption
  | none => none

end Sys2Proof
end

