-- ==== Sys2Proof/Machine/State.lean ====
section
/-! DEFINITION. The state of the machine as plain data: the 17 registers, flags and latches of spec/10_state.md
(summary table), the output trace (R8), the configuration (R4) and the environment's side of the ports (R9, R44, R47,
R137); the reasons a step can stop; the state after reset (R155). The block has no memory of any kind (R40). -/

namespace Sys2Proof.Machine

open Sys2Proof

/-- The environment's data (R9): what it will do and answer next. Not state of the block. A listed item is used
first; where a list is empty the next item is a free value of `Config`, drawn at `draws`. -/
structure Env where
  /-- The true time T in microseconds (R47); the port `now` shows it modulo `2^32`. -/
  time : Nat
  /-- Who takes the next steps (R9, R54), the next one first. -/
  turns : List Turn
  /-- The answers of the next conversions of channel 0 (R44), the next one first. -/
  adc0 : List Sample
  /-- The answers of the next conversions of channel 1 (R44), the next one first. -/
  adc1 : List Sample
  /-- The lines served first at the next simultaneous services under IRQ_PRIORITY = ANY (R137). -/
  picks : List Line
  /-- The model's own counter: how many free values have been drawn. -/
  draws : Nat
deriving DecidableEq, Repr

/-- The machine's state. -/
structure State where
  /-- The wired configuration (R4, R23); no step writes it. -/
  cfg : Config
  /-- The environment's data (R9). -/
  env : Env
  /-- `ph`, the phase register (R17). -/
  ph : Phase
  /-- `raw_x`, the last sample of the X channel (R11). -/
  rawX : Sample
  /-- `raw_y`, the last sample of the Y channel (R11). -/
  rawY : Sample
  /-- `square_x`, the left edge of the square (R12). -/
  squareX : Coord
  /-- `square_y`, the top edge of the square (R12). -/
  squareY : Coord
  /-- `duty_x`, the PWM level of the X-axis LED (R13). -/
  dutyX : Duty
  /-- `duty_y`, the PWM level of the Y-axis LED (R13). -/
  dutyY : Duty
  /-- `last_a`, the counter at button A's last accepted edge (R14). -/
  lastA : Stamp
  /-- `last_j`, the counter at the joystick button's last accepted edge (R14). -/
  lastJ : Stamp
  /-- `t_mark`, the counter at the start of the end-of-tick delay (R15). -/
  tMark : Stamp
  /-- `adc_sel`, the selected ADC channel (R16). -/
  adcSel : Channel
  /-- `pwm_enabled` (R18). -/
  pwmEnabled : Bool
  /-- `border_thick` (R19). -/
  borderThick : Bool
  /-- `fill_variant` (R20). -/
  fillVariant : Bool
  /-- `ind`, the indicator (R21). -/
  ind : Bool
  /-- `irq_pend_a`, the pending latch of line A (R25). -/
  irqPendA : Bool
  /-- `irq_pend_j`, the pending latch of line J (R25). -/
  irqPendJ : Bool
  /-- The output trace, the oldest event first (R8, R48, R49). -/
  out : List OutEvent
deriving DecidableEq, Repr

/-- Why the machine is stuck. No operation faults, traps or aborts (R135). -/
inductive Fault where
  /-- Raised by `step` when the block is to move, no latch is set and `ph` is 14 or 15: SEQ has no step (R64, R17,
  D22). Safe: the model stops where the spec gives the block no behaviour. -/
  | stuckPhase
deriving DecidableEq, Repr

/-- Why the model gives no meaning. -/
inductive Refusal where
  /-- Raised by an arm of `exec` for an operation that has no meaning yet; no arm answers it now. Safe. -/
  | notModelled (mnemonic : String)
  /-- Raised by `step` and by every meaning under an ill-formed configuration: "the model refuses any other
  configuration (it gives it no meaning)" (R5, D11, U9). Safe. -/
  | illFormedConfig
deriving DecidableEq, Repr

/-- The values of reset (R155, the summary table of spec/10_state.md) under a configuration, in an environment: the
environment's data, the counter among it, is not reset (R156). The six registers whose reset value the spec leaves
unspecified (`raw_x`, `raw_y`, `square_x`, `square_y`, `t_mark`, `adc_sel`; R24) take 0: DESIGN CHOICE, unsafe, see
log entry 1. -/
def State.initial (c : Config) (e : Env) : State where
  cfg := c
  env := e
  ph := 0
  rawX := 0
  rawY := 0
  squareX := 0
  squareY := 0
  dutyX := 0
  dutyY := 0
  lastA := 0
  lastJ := 0
  tMark := 0
  adcSel := 0
  pwmEnabled := true
  borderThick := false
  fillVariant := c.fillReset
  ind := false
  irqPendA := false
  irqPendJ := false
  out := []

/-- The environment at reset: nothing listed, so that every turn, answer and pick is a free value; the true time is
arbitrary (R47, R156). -/
def Env.initial : Env where
  time := Config.timeAtReset
  turns := []
  adc0 := []
  adc1 := []
  picks := []
  draws := 0

/-- The machine right after reset (R155), under the default configuration of R4. -/
def State.reset : State := State.initial Config.default Env.initial

end Sys2Proof.Machine
end

