-- ==== Sys2Proof/Machine/Arith.lean ====
section
/-! DEFINITION. The value computations of the operations, over the mathematical integers as the rules write them
(R6), with the narrowing into a register said at the end. -/

namespace Sys2Proof.Machine

open Sys2Proof

/-- `tdiv` (R7): the quotient rounded toward zero. -/
def tdiv (a b : Int) : Int := Int.tdiv a b

/-- `mapped` of R80: the scaled offset, before the clamp. -/
def coordMapped (raw center smax : Int) : Int :=
  let half := tdiv smax 2
  let offset := raw - center
  if offset < 0 then
    tdiv (offset * half) center + half
  else
    tdiv (offset * half) (Config.adcMax - center) + half

/-- `min(max(v, lo), hi)` (R80, R85, R86). -/
def clamp (lo hi v : Int) : Int := min (max v lo) hi

/-- `map(raw, center, smax)` (R80). It reads no deadzone (R87). -/
def coordMap (raw center smax : Int) : Int :=
  clamp 0 smax (coordMapped raw center smax)

/-- The reflection of MAPX and MAPY against `dim - SQUARE` (R82, R83). -/
def reflect (dim m : Int) : Int := (dim - Config.square) - m

/-- `bo(t)` (R84). -/
def borderOffset (t : Bool) : Int :=
  if t then Config.thickOn else Config.thickOff

/-- The clamp of a coordinate along an axis of `dim` pixels against the border of thickness flag `t` (R84 to R86). -/
def borderClamp (dim : Int) (t : Bool) (v : Int) : Int :=
  clamp (borderOffset t) (dim - Config.square - borderOffset t) v

/-- `brightness(raw, center, en)` (R90), the divide guard of R91 included. -/
def brightness (raw center : Int) (en : Bool) : Int :=
  if en = false then
    0
  else
    let offset := raw - center
    if -(Config.deadzone : Int) < offset ∧ offset < Config.deadzone then
      0
    else
      let maxOffset : Int := if 0 < offset then Config.adcMax - center else center
      if maxOffset - Config.deadzone = 0 then
        0
      else
        tdiv ((|offset| - Config.deadzone) * Config.dutyMax) (maxOffset - Config.deadzone)

/-- `(now - mark) mod 2^32`, the wrap-safe subtraction of R6. -/
def elapsed (now mark : Stamp) : Nat := (now - mark).toNat

/-- `accept(now, last)`, the debounce test (R102). -/
def accept (now last : Stamp) : Bool := decide (Config.debounceUs ≤ elapsed now last)

/-- The test of the end-of-tick delay (R131). -/
def delayPassed (now mark : Stamp) : Bool := decide (Config.tickDelayUs ≤ elapsed now mark)

end Sys2Proof.Machine
end

