-- ==== Sys2Proof/Machine/Env.lean ====
section
/-! DEFINITION. The environment's answers: each takes the listed item first and a free value where none is listed.
An answer comes with the environment that is left. -/

namespace Sys2Proof.Machine

open Sys2Proof

/-- `read()` of the analog input peripheral on a channel (R44): the channel's next listed answer, else a free value. -/
def Env.adcRead (ch : Channel) (e : Env) : Sample × Env :=
  if ch = 0 then
    match e.adc0 with
    | v :: rest => (v, { e with adc0 := rest })
    | [] => (Config.adcDraw ch e.draws, { e with draws := e.draws + 1 })
  else
    match e.adc1 with
    | v :: rest => (v, { e with adc1 := rest })
    | [] => (Config.adcDraw ch e.draws, { e with draws := e.draws + 1 })

/-- Who moves next (R9, R54). -/
def Env.turn (e : Env) : Turn × Env :=
  match e.turns with
  | t :: rest => (t, { e with turns := rest })
  | [] => (Config.turnDraw e.draws, { e with draws := e.draws + 1 })

/-- Which line is served first when IRQ_PRIORITY is ANY and both latches are set (R137). -/
def Env.pick (e : Env) : Line × Env :=
  match e.picks with
  | l :: rest => (l, { e with picks := rest })
  | [] => (Config.lineDraw e.draws, { e with draws := e.draws + 1 })

/-- The port `now`: `T mod 2^32` (R47). -/
def Env.now (e : Env) : Stamp :=
  BitVec.ofNat 32 e.time

end Sys2Proof.Machine
end

