-- ==== Sys2Proof/Machine/Flags.lean ====
section
/-! DEFINITION. The packed views of the flags and latches (R23). The block has no arithmetic condition code: no
operation computes a carry, zero, sign or overflow flag (R22), and no operation reads or writes these words. -/

namespace Sys2Proof.Machine

open Sys2Proof

/-- FLAGS (R23): bit 0 `pwm_enabled`, bit 1 `border_thick`, bit 2 `fill_variant`, bit 3 `ind`. -/
def State.flagsWord (s : State) : BitVec 4 :=
  BitVec.ofBool s.ind ++ BitVec.ofBool s.fillVariant ++ BitVec.ofBool s.borderThick ++ BitVec.ofBool s.pwmEnabled

/-- IRQP (R23): bit 0 `irq_pend_a`, bit 1 `irq_pend_j`. -/
def State.irqpWord (s : State) : BitVec 2 :=
  BitVec.ofBool s.irqPendJ ++ BitVec.ofBool s.irqPendA

/-- The flags are toggled, never copied (R104, D24): `not b` of R8. -/
def toggled (b : Bool) : Bool := !b

end Sys2Proof.Machine
end

