-- ==== Sys2Proof/Machine/Operands.lean ====
section
/-! DEFINITION. The wired operands. No operation has an operand field (R62): what each reads and writes is fixed by
the summary table of spec/10_state.md, written here once, with the registers' names and widths. -/

namespace Sys2Proof.Machine

open Sys2Proof

/-- The 17 registers, flags and latches of the summary table (R10 to R25). -/
inductive Reg where
  | rawX
  | rawY
  | squareX
  | squareY
  | dutyX
  | dutyY
  | lastA
  | lastJ
  | tMark
  | adcSel
  | ph
  | pwmEnabled
  | borderThick
  | fillVariant
  | ind
  | irqPendA
  | irqPendJ
deriving DecidableEq, Repr

/-- The width column of the summary table. -/
def Reg.width : Reg → Nat
  | .rawX | .rawY => 12
  | .squareX | .squareY => 8
  | .dutyX | .dutyY => 16
  | .lastA | .lastJ | .tMark => 32
  | .ph => 4
  | .adcSel | .pwmEnabled | .borderThick | .fillVariant | .ind | .irqPendA | .irqPendJ => 1

/-- A register's contents as the unsigned number it holds (R6). -/
def State.regVal (s : State) : Reg → Nat
  | .rawX => s.rawX.toNat
  | .rawY => s.rawY.toNat
  | .squareX => s.squareX.toNat
  | .squareY => s.squareY.toNat
  | .dutyX => s.dutyX.toNat
  | .dutyY => s.dutyY.toNat
  | .lastA => s.lastA.toNat
  | .lastJ => s.lastJ.toNat
  | .tMark => s.tMark.toNat
  | .adcSel => s.adcSel.toNat
  | .ph => s.ph.toNat
  | .pwmEnabled => s.pwmEnabled.toNat
  | .borderThick => s.borderThick.toNat
  | .fillVariant => s.fillVariant.toNat
  | .ind => s.ind.toNat
  | .irqPendA => s.irqPendA.toNat
  | .irqPendJ => s.irqPendJ.toNat

/-- The "written by" column, by operation. -/
def writesOf : Instr → List Reg
  | .smpx | .rsmx => [.adcSel, .rawX, .ph]
  | .smpy | .rsmy => [.adcSel, .rawY, .ph]
  | .mapx | .clpx => [.squareX, .ph]
  | .mapy | .clpy => [.squareY, .ph]
  | .rndr | .diag | .dlyw => [.ph]
  | .pwmx => [.dutyX, .ph]
  | .pwmy => [.dutyY, .ph]
  | .dlys => [.tMark, .ph]
  | .irqa => [.lastA, .pwmEnabled, .irqPendA]
  | .irqj => [.lastJ, .borderThick, .ind, .irqPendJ]

/-- The "read by" column, by operation, less the reads that only enable an agent (`ph`, the latches: R105, R120,
R121) and the ADC's own reading of `adc_sel`. -/
def readsOf : Instr → List Reg
  | .smpx | .smpy | .rsmx | .rsmy | .diag | .dlys => []
  | .mapx => [.rawX]
  | .mapy => [.rawY]
  | .clpx => [.squareX, .borderThick]
  | .clpy => [.squareY, .borderThick]
  | .rndr => [.squareX, .squareY, .borderThick, .fillVariant]
  | .pwmx => [.rawX, .pwmEnabled]
  | .pwmy => [.rawY, .pwmEnabled]
  | .dlyw => [.tMark]
  | .irqa => [.lastA, .pwmEnabled]
  | .irqj => [.lastJ, .borderThick, .ind]

/-- The channel of the X axis as `adc_sel` carries it (CH_X; R41, R70). -/
def State.chanX (s : State) : Channel := BitVec.ofNat 1 s.cfg.chX

/-- The channel of the Y axis as `adc_sel` carries it (CH_Y; R41, R70). -/
def State.chanY (s : State) : Channel := BitVec.ofNat 1 s.cfg.chY

end Sys2Proof.Machine
end

