-- ==== Sys2Proof/Machine/Ops.lean ====
section
/-! DEFINITION. The named operations over the registers and the ports that the meanings share: the configuration
check, the two sampling actions, the output trace, the phase register, the pending latches, the entry into an
interrupt service and the return from it, the environment's events. The block has no memory to operate on (R40). -/

namespace Sys2Proof.Machine

open Sys2Proof

/-- What a step answers. -/
abbrev Answer := Host.Outcome State Fault Refusal

/-- An ill-formed configuration has no meaning: the model refuses it (R5). -/
def State.configured (s : State) (answer : Answer) : Answer :=
  if s.cfg.wellFormed then answer else .refused .illFormedConfig

/-- `Now()` (R47): the port `now` at this step. -/
def State.now (s : State) : Stamp := s.env.now

/-- `select_channel(n)` (R44): the write of `adc_sel`. -/
def State.select (ch : Channel) (s : State) : State := { s with adcSel := ch }

/-- `AdcRead()` (R44): one conversion of the channel that `adc_sel` selects. -/
def State.adcRead (s : State) : Sample × State :=
  ((s.env.adcRead s.adcSel).1, { s with env := (s.env.adcRead s.adcSel).2 })

/-- The sample multiplexer (R70): select, then read, in one step. -/
def State.sample (ch : Channel) (s : State) : Sample × State := (s.select ch).adcRead

/-- `emit` (R8): append an event to the output trace. -/
def State.emit (ev : OutEvent) (s : State) : State := { s with out := s.out ++ [ev] }

/-- `ph <- v` (R8, R120). -/
def State.goto (v : Phase) (s : State) : State := { s with ph := v }

/-- The phase after RNDR (R115, R120). -/
def State.afterRender (s : State) : Phase := if s.cfg.resamplePwm then 7 else 9

/-- The pending latch of a line (R25). -/
def State.pending (s : State) : Line → Bool
  | .a => s.irqPendA
  | .j => s.irqPendJ

/-- The write of a line's pending latch (R25). -/
def State.setPending (l : Line) (b : Bool) (s : State) : State :=
  match l with
  | .a => { s with irqPendA := b }
  | .j => { s with irqPendJ := b }

/-- TAKING AN INTERRUPT (R138): it "saves nothing and changes no state: no return address, no status word, no stack,
no mode bit"; `ph` keeps its value. -/
def State.enterService (_ : Line) (s : State) : State := s

/-- THE RETURN FROM AN INTERRUPT (R139): the service's last write clears the latch it served, accepted or not (R136);
nothing is restored because nothing was saved. -/
def State.leaveService (l : Line) (s : State) : State := s.setPending l false

/-- The context (R141): DISP while a latch is set, else SEQ. -/
def State.context (s : State) : Agent := if s.irqPendA || s.irqPendJ then .disp else .seq

/-- The effect of an environment event (R100 for the edges, R47 for time, R155 for reset). RST puts every register,
flag and latch at its reset value and empties the output trace; the environment's data stays (R156). -/
def State.onEvent (e : EnvEvent) (s : State) : State :=
  match e with
  | .edga => s.setPending .a true
  | .edgj => s.setPending .j true
  | .time us => { s with env := { s.env with time := s.env.time + us } }
  | .rst => State.initial s.cfg s.env

/-- Whose turn it is, with the turn taken off the environment's list (R9, R54). -/
def State.takeTurn (s : State) : Turn × State := (s.env.turn.1, { s with env := s.env.turn.2 })

end Sys2Proof.Machine
end

