-- ==== Sys2Proof/Machine/Brightness.lean ====
section
/-! DEFINITION. The PWM duty mapper: PWMX, PWMY (spec/42_brightness_mapper.md). -/

namespace Sys2Proof.Machine

open Sys2Proof

/-- PWMX, compute and apply the X-axis duty (R93); the port `pwm_level_x` shows `duty_x` (R45). -/
def execPwmx (s : State) : Answer :=
  s.configured (.next (State.goto 10
    { s with dutyX := BitVec.ofInt 16 (brightness s.rawX.toNat s.cfg.centerX s.pwmEnabled) }))

/-- PWMY, compute and apply the Y-axis duty (R94); the port `pwm_level_y` shows `duty_y` (R45). -/
def execPwmy (s : State) : Answer :=
  s.configured (.next (State.goto 11
    { s with dutyY := BitVec.ofInt 16 (brightness s.rawY.toNat s.cfg.centerY s.pwmEnabled) }))

end Sys2Proof.Machine
end

