-- ==== Sys2Proof/Machine/Dispatcher.lean ====
section
/-! DEFINITION. The edge dispatcher: IRQA, IRQJ (spec/43_edge_dispatcher.md). The timestamp is the counter at the
service (R106). -/

namespace Sys2Proof.Machine

open Sys2Proof

/-- What an accepted edge of button A writes (R103). -/
def State.acceptA (s : State) : State :=
  { s with lastA := s.now, pwmEnabled := toggled s.pwmEnabled }

/-- What an accepted edge of the joystick button writes (R104): both toggles land in one step. -/
def State.acceptJ (s : State) : State :=
  { s with lastJ := s.now, borderThick := toggled s.borderThick, ind := toggled s.ind }

/-- The debounce of button A (R103): a rejected edge changes neither `last_a` nor `pwm_enabled`. -/
def State.serveA (s : State) : State := if accept s.now s.lastA then s.acceptA else s

/-- The debounce of the joystick button (R104): a rejected edge changes neither `last_j` nor the flags. -/
def State.serveJ (s : State) : State := if accept s.now s.lastJ then s.acceptJ else s

/-- IRQA, serve button A (R103). -/
def execIrqa (s : State) : Answer :=
  s.configured (.next ((s.enterService .a).serveA.leaveService .a))

/-- IRQJ, serve the joystick button (R104). -/
def execIrqj (s : State) : Answer :=
  s.configured (.next ((s.enterService .j).serveJ.leaveService .j))

end Sys2Proof.Machine
end

