-- ==== Sys2Proof/Machine/Loop.lean ====
section
/-! DEFINITION. The operations of the loop itself: RNDR (spec/44_render_step.md), DIAG, DLYS, DLYW
(spec/45_main_loop.md). -/

namespace Sys2Proof.Machine

open Sys2Proof

/-- RNDR, hand the scene to the renderer (R115): one event with an atomic snapshot. -/
def execRndr (s : State) : Answer :=
  s.configured (.next ((s.emit (.render s.squareX s.squareY s.borderThick s.fillVariant)).goto s.afterRender))

/-- DIAG, emit the diagnostic strobe (R128); the event has no payload (R49). -/
def execDiag (s : State) : Answer :=
  s.configured (.next ((s.emit .diag).goto 12))

/-- DLYS, start the end-of-tick delay (R130). -/
def execDlys (s : State) : Answer :=
  s.configured (.next (State.goto 13 { s with tMark := s.now }))

/-- DLYW, wait out the delay (R131): it runs again until the test passes. -/
def execDlyw (s : State) : Answer :=
  s.configured (.next (s.goto (if delayPassed s.now s.tMark then 0 else 13)))

end Sys2Proof.Machine
end

