-- ==== Sys2Proof/Machine/Mapper.lean ====
section
/-! DEFINITION. The coordinate mapper: MAPX, MAPY, CLPX, CLPY (spec/41_coordinate_mapper.md). -/

namespace Sys2Proof.Machine

open Sys2Proof

/-- The coordinate MAPX writes, before it is narrowed to 8 bits (R82). -/
def State.mappedX (s : State) : Int :=
  let m := coordMap s.rawX.toNat s.cfg.centerX s.cfg.smaxX
  if s.cfg.invertX then reflect Config.screenW m else m

/-- The coordinate MAPY writes, before it is narrowed to 8 bits (R83). -/
def State.mappedY (s : State) : Int :=
  reflect s.cfg.screenH (coordMap s.rawY.toNat s.cfg.centerY s.cfg.smaxY)

/-- The coordinate CLPX writes, before it is narrowed to 8 bits (R85). -/
def State.clampedX (s : State) : Int := borderClamp Config.screenW s.borderThick s.squareX.toNat

/-- The coordinate CLPY writes, before it is narrowed to 8 bits (R86). -/
def State.clampedY (s : State) : Int := borderClamp s.cfg.screenH s.borderThick s.squareY.toNat

/-- MAPX, map the X sample to `square_x` (R82). -/
def execMapx (s : State) : Answer :=
  s.configured (.next (State.goto 3 { s with squareX := BitVec.ofInt 8 s.mappedX }))

/-- MAPY, map the Y sample to `square_y`, inverted (R83). -/
def execMapy (s : State) : Answer :=
  s.configured (.next (State.goto 4 { s with squareY := BitVec.ofInt 8 s.mappedY }))

/-- CLPX, clamp `square_x` against the current border (R85). -/
def execClpx (s : State) : Answer :=
  s.configured (.next (State.goto 5 { s with squareX := BitVec.ofInt 8 s.clampedX }))

/-- CLPY, clamp `square_y` against the current border (R86). -/
def execClpy (s : State) : Answer :=
  s.configured (.next (State.goto 6 { s with squareY := BitVec.ofInt 8 s.clampedY }))

end Sys2Proof.Machine
end

