-- ==== Sys2Proof/Machine/Sampler.lean ====
section
/-! DEFINITION. The analog sampler: SMPX, SMPY, RSMX, RSMY (spec/40_analog_sampler.md). -/

namespace Sys2Proof.Machine

open Sys2Proof

/-- SMPX, sample the X axis (R71). -/
def execSmpx (s : State) : Answer :=
  s.configured (.next (State.goto 1 { (s.sample s.chanX).2 with rawX := (s.sample s.chanX).1 }))

/-- SMPY, sample the Y axis (R72). -/
def execSmpy (s : State) : Answer :=
  s.configured (.next (State.goto 2 { (s.sample s.chanY).2 with rawY := (s.sample s.chanY).1 }))

/-- RSMX, sample the X axis again before the duty phases (R73). -/
def execRsmx (s : State) : Answer :=
  s.configured (.next (State.goto 8 { (s.sample s.chanX).2 with rawX := (s.sample s.chanX).1 }))

/-- RSMY, sample the Y axis again before the duty phases (R74). -/
def execRsmy (s : State) : Answer :=
  s.configured (.next (State.goto 9 { (s.sample s.chanY).2 with rawY := (s.sample s.chanY).1 }))

end Sys2Proof.Machine
end

