-- ==== Sys2Proof/Machine/Dispatch.lean ====
section
/-! DEFINITION. Every operation's meaning, one arm per row of the opcode table. -/

namespace Sys2Proof.Machine

open Sys2Proof

def exec (i : Instr) (s : State) : Host.Outcome State Fault Refusal :=
  match i with
  | .smpx => Sys2Proof.Machine.execSmpx s
  | .smpy => Sys2Proof.Machine.execSmpy s
  | .mapx => Sys2Proof.Machine.execMapx s
  | .mapy => Sys2Proof.Machine.execMapy s
  | .clpx => Sys2Proof.Machine.execClpx s
  | .clpy => Sys2Proof.Machine.execClpy s
  | .rndr => Sys2Proof.Machine.execRndr s
  | .rsmx => Sys2Proof.Machine.execRsmx s
  | .rsmy => Sys2Proof.Machine.execRsmy s
  | .pwmx => Sys2Proof.Machine.execPwmx s
  | .pwmy => Sys2Proof.Machine.execPwmy s
  | .diag => Sys2Proof.Machine.execDiag s
  | .dlys => Sys2Proof.Machine.execDlys s
  | .dlyw => Sys2Proof.Machine.execDlyw s
  | .irqa => Sys2Proof.Machine.execIrqa s
  | .irqj => Sys2Proof.Machine.execIrqj s

end Sys2Proof.Machine
end

