-- ==== Sys2Proof/Machine/Fetch.lean ====
section
/-! DEFINITION. Which operation the block executes next: the enabling conditions of SEQ (R121) and DISP (R105), the
priority between the lines (R137), and the code that names the operation (R60, R61). -/

namespace Sys2Proof.Machine

open Sys2Proof

/-- The line served when both latches are set (R137), with the environment's pick taken off under ANY. -/
def State.firstLine (s : State) : Line × State :=
  match s.cfg.irqPriority with
  | .aFirst => (.a, s)
  | .jFirst => (.j, s)
  | .any => (s.env.pick.1, { s with env := s.env.pick.2 })

/-- The code of the block's next operation: a set latch comes before SEQ (R121), one line at a time (R105); with no
latch set it is the phase register (R120). -/
def State.fetch (s : State) : Code × State :=
  match s.irqPendA, s.irqPendJ with
  | false, false => (.seq s.ph, s)
  | true, false => (Line.code .a, s)
  | false, true => (Line.code .j, s)
  | true, true => (s.firstLine.1.code, s.firstLine.2)

/-- Put a code where `fetch` reads it: a phase in `ph` with both latches clear, a line in its latch alone. -/
def State.placeCode (c : Code) (s : State) : State :=
  match c with
  | .seq b => { s with ph := b, irqPendA := false, irqPendJ := false }
  | .irq b => { s with irqPendA := decide (b = 0), irqPendJ := decide (b = 1) }

/-- Give the block the next turn. -/
def State.giveTurn (t : Turn) (s : State) : State :=
  { s with env := { s.env with turns := t :: s.env.turns } }

/-- Place a row's word; a word that is no code of its format is placed as the reserved phase 15, which names no
operation (R64). -/
def State.placeWord (nbits w : Nat) (s : State) : State :=
  match codeOfWord nbits w with
  | some c => s.placeCode c
  | none => s.placeCode (.seq 15)

end Sys2Proof.Machine
end

