-- ==== Sys2Proof/Machine/Step.lean ====
section
/-! DEFINITION. One atomic step (R9, R54): the environment's, or the block's next operation. -/

namespace Sys2Proof.Machine

open Sys2Proof

/-- The block's step: the operation its next code names; at a reserved phase SEQ has no step (R64). -/
def blockStep (s : State) : Host.Outcome State Fault Refusal :=
  match decode s.fetch.1 with
  | .ok i => exec i s.fetch.2
  | .error .reservedPhase => .fault .stuckPhase

/-- One step of whoever's turn it is. -/
def step (s : State) : Host.Outcome State Fault Refusal :=
  s.configured
    (match s.takeTurn.1 with
    | .env e => .next (s.takeTurn.2.onEvent e)
    | .block => blockStep s.takeTurn.2)

/-- `s` with a row's word where the block reads its next code, and the next turn the block's (log entry 6). -/
def State.withFetchWord (s : State) (nbits w : Nat) : State :=
  (s.placeWord nbits w).giveTurn .block

end Sys2Proof.Machine
end

