-- ==== Sys2Proof/Machine/Ports.lean ====
section
/-! DEFINITION. The ports (spec/20_memory.md, R42, R43). The level outputs show registers continuously; the pulses
`render_strobe` and `diag_strobe` are the events of the output trace. -/

namespace Sys2Proof.Machine

open Sys2Proof

/-- The level outputs (R43). -/
structure Levels where
  /-- `adc_sel`. -/
  adcSel : Channel
  /-- `pwm_level_x[15:0]` (R45, R95). -/
  pwmLevelX : Duty
  /-- `pwm_level_y[15:0]` (R45, R95). -/
  pwmLevelY : Duty
  /-- `ind`. -/
  ind : Bool
  /-- `rnd_x[7:0]`, valid at the strobe only (R166). -/
  rndX : Coord
  /-- `rnd_y[7:0]`, valid at the strobe only (R166). -/
  rndY : Coord
  /-- `rnd_thick`. -/
  rndThick : Bool
  /-- `rnd_fill`. -/
  rndFill : Bool
deriving DecidableEq, Repr

/-- What the level outputs show in a state (R43). -/
def State.levels (s : State) : Levels where
  adcSel := s.adcSel
  pwmLevelX := s.dutyX
  pwmLevelY := s.dutyY
  ind := s.ind
  rndX := s.squareX
  rndY := s.squareY
  rndThick := s.borderThick
  rndFill := s.fillVariant

/-- Whether an event of the output trace is a pulse on `render_strobe` (R43, R48). -/
def isRenderStrobe : OutEvent → Bool
  | .render _ _ _ _ => true
  | .diag => false

/-- Whether an event of the output trace is a pulse on `diag_strobe` (R43, R49). -/
def isDiagStrobe : OutEvent → Bool
  | .render _ _ _ _ => false
  | .diag => true

/-- The `n` bytes of a number as a trace serialises it, the least significant first (R50). -/
def serialised : Nat → Nat → List (BitVec 8)
  | 0, _ => []
  | n + 1, v => BitVec.ofNat 8 v :: serialised n (v / 256)

end Sys2Proof.Machine
end

