-- ==== Sys2Proof/Machine/Renderer.lean ====
section
/-! DEFINITION. What the external renderer draws on a `Render` event, as far as spec/44_render_step.md transcribes it
(R116, R117). No operation depends on it, and the drawing itself is out of scope (R3). -/

namespace Sys2Proof.Machine

open Sys2Proof

/-- The insets, from the screen edge, of the one-pixel frames of the border (R116). -/
def frameInsets (thick : Bool) : List Nat :=
  if thick then [0, 1, 2] else [0]

/-- Whether pixel (`px`, `py`) of a screen of height `screenH` lies on the frame at an inset (R116). -/
def onFrame (screenH inset px py : Nat) : Bool :=
  decide (inset ≤ px) && decide (px + inset < Config.screenW) &&
    decide (inset ≤ py) && decide (py + inset < screenH) &&
    (decide (px = inset) || decide (px + inset + 1 = Config.screenW) ||
      decide (py = inset) || decide (py + inset + 1 = screenH))

/-- Whether the square of an event at (`x`, `y`) covers pixel (`px`, `py`): `x` to `x + 7` by `y` to `y + 7` (R116). -/
def squareCovers (x y : Coord) (px py : Nat) : Bool :=
  decide (x.toNat ≤ px) && decide (px < x.toNat + Config.square) &&
    decide (y.toNat ≤ py) && decide (py < y.toNat + Config.square)

/-- The two fill styles (R117); which of them is filled and which outlined is not in the source (N4). -/
inductive FillStyle where
  | outlineA
  | outlineB
deriving DecidableEq, Repr

/-- The style the payload's `fill` selects (R117). -/
def fillStyle (fill : Bool) : FillStyle := if fill then .outlineA else .outlineB

end Sys2Proof.Machine
end

