-- ==== Sys2Proof/Machine/Trace.lean ====
section
/-! DEFINITION. Traces (spec/30_encoding.md, R65 to R67): a run written as one step per line. A line gives the block
or the environment its turn, with the inputs the step consumes; a line that names a step the machine does not have is
illegal. -/

namespace Sys2Proof.Machine

open Sys2Proof

/-- Whether the block's next step can be the operation `i` (R105, R121, R137): under ANY either line may come first. -/
def State.enables (s : State) (i : Instr) : Bool :=
  match i with
  | .irqa => s.irqPendA && (!s.irqPendJ || decide (s.cfg.irqPriority ≠ .jFirst))
  | .irqj => s.irqPendJ && (!s.irqPendA || decide (s.cfg.irqPriority ≠ .aFirst))
  | _ => !s.irqPendA && !s.irqPendJ && decide (encode i = .seq s.ph)

/-- Advance true time by the least amount that makes the counter read `v` (R65, R47). -/
def Env.advanceTo (v : Stamp) (e : Env) : Env := { e with time := e.time + (v - e.now).toNat }

/-- List an answer as a channel's next one (R44). -/
def Env.answerNext (ch : Channel) (v : Sample) (e : Env) : Env :=
  if ch = 0 then { e with adc0 := v :: e.adc0 } else { e with adc1 := v :: e.adc1 }

/-- The channel a sampling operation selects. -/
def State.sampledBy (s : State) : Instr → Channel
  | .smpy | .rsmy => s.chanY
  | _ => s.chanX

/-- The environment that supplies an operation's line (R65): the counter's value, the ADC's answer, the line served
first where the choice is open, and the turn. -/
def State.supply (i : Instr) (adc : Option Sample) (now : Option Stamp) (s : State) : State :=
  let timed := match now with
    | some v => s.env.advanceTo v
    | none => s.env
  let answered := match adc with
    | some v => timed.answerNext (s.sampledBy i) v
    | none => timed
  let picked :=
    if s.irqPendA && s.irqPendJ && decide (s.cfg.irqPriority = .any) then
      { answered with picks := (if i = .irqa then .a else .j) :: answered.picks }
    else answered
  State.giveTurn .block { s with env := picked }

/-- The state a step answers, if it answers one. -/
def answered : Answer → Option State
  | .next t => some t
  | .fault _ => none
  | .refused _ => none

/-- One line of a trace; `none` for an illegal line. -/
def State.traceStep (s : State) (l : TraceLine) : Option State :=
  match l with
  | .op i adc now =>
    if l.wellFormed && s.enables i then answered (step (s.supply i adc now)) else none
  | .edga => answered (step (s.giveTurn (.env .edga)))
  | .edgj => answered (step (s.giveTurn (.env .edgj)))
  | .rst => answered (step (s.giveTurn (.env .rst)))

/-- A trace, line by line; `none` for an illegal trace. -/
def State.runTrace : List TraceLine → State → Option State
  | [], s => some s
  | l :: ls, s =>
    match s.traceStep l with
    | some t => State.runTrace ls t
    | none => none

/-- An operation that takes no input (R65). -/
def bare (i : Instr) : TraceLine := .op i none none

/-- The lines of `TICK(ax, ay, t0, t1)` (R67); when the pseudo-operation is legal is `Pseudo.legal`. -/
def tick (ax ay : Sample) (t0 t1 : Stamp) : List TraceLine :=
  [.op .smpx (some ax) none, .op .smpy (some ay) none, bare .mapx, bare .mapy, bare .clpx, bare .clpy, bare .rndr,
    bare .pwmx, bare .pwmy, bare .diag, .op .dlys none (some t0), .op .dlyw none (some t1)]

/-- The lines of `TICK2(ax, ay, bx, by, t0, t1)` (R67); when the pseudo-operation is legal is `Pseudo.legal`. -/
def tick2 (ax ay bx bY : Sample) (t0 t1 : Stamp) : List TraceLine :=
  [.op .smpx (some ax) none, .op .smpy (some ay) none, bare .mapx, bare .mapy, bare .clpx, bare .clpy, bare .rndr,
    .op .rsmx (some bx) none, .op .rsmy (some bY) none,
    bare .pwmx, bare .pwmy, bare .diag, .op .dlys none (some t0), .op .dlyw none (some t1)]

/-- The lines of `PRESSA(t)` (R67). -/
def pressA (t : Stamp) : List TraceLine := [.edga, .op .irqa none (some t)]

/-- The lines of `PRESSJ(t)` (R67). -/
def pressJ (t : Stamp) : List TraceLine := [.edgj, .op .irqj none (some t)]

end Sys2Proof.Machine

namespace Sys2Proof

/-- The lines a pseudo-operation expands to (R67). -/
def Pseudo.lines : Pseudo → List TraceLine
  | .tick ax ay t0 t1 => Machine.tick ax ay t0 t1
  | .tick2 ax ay bx bY t0 t1 => Machine.tick2 ax ay bx bY t0 t1
  | .pressA t => Machine.pressA t
  | .pressJ t => Machine.pressJ t

/-- When a pseudo-operation may be written under a configuration (R67): TICK with RESAMPLE_PWM = false, TICK2 with
RESAMPLE_PWM = true, and both only with `t1 - t0 mod 2^32 >= TICK_DELAY_US`, so that the tick is a whole one. -/
def Pseudo.legal (c : Config) : Pseudo → Bool
  | .tick _ _ t0 t1 => !c.resamplePwm && Machine.delayPassed t1 t0
  | .tick2 _ _ _ _ t0 t1 => c.resamplePwm && Machine.delayPassed t1 t0
  | .pressA _ => true
  | .pressJ _ => true

/-- Whether lines of a trace may be written as the pseudo-operation (R67). A stretch in which an edge event falls inside
a tick is not a TICK: it is not the expansion, in which no line is an edge. -/
def Pseudo.standsFor (c : Config) (p : Pseudo) (ls : List TraceLine) : Bool := p.legal c && decide (ls = p.lines)

end Sys2Proof

namespace Sys2Proof.Machine

/-- A pseudo-operation: its lines, one after another; `none` where it is not legal or a line of it is not. -/
def State.runPseudo (p : Pseudo) (s : State) : Option State :=
  if p.legal s.cfg then State.runTrace p.lines s else none

/-- One item of a written run. -/
def State.runItem (w : Written) (s : State) : Option State :=
  match w with
  | .line l => s.traceStep l
  | .pseudo p => s.runPseudo p

/-- A written run, item by item; `none` where an item is illegal. -/
def State.runWritten : List Written → State → Option State
  | [], s => some s
  | w :: ws, s =>
    match s.runItem w with
    | some t => State.runWritten ws t
    | none => none

end Sys2Proof.Machine
end

