-- ==== Sys2Proof/Safety.lean ====
section
/-! DEFINITION. What a good state is, in the terms the statements use. -/

namespace Sys2Proof.Machine

open Sys2Proof

/-- A tick boundary (R132, D26): where an observer may stop. -/
def State.tickBoundary (s : State) : Bool := decide (s.ph = 0) && !s.irqPendA && !s.irqPendJ

/-- Whether (`x`, `y`) keeps an 8 by 8 square on a screen of height `screenH` and off its outermost frame (R88). -/
abbrev clearOfOuterFrame (screenH : Nat) (x y : Coord) : Prop :=
  1 ≤ x.toNat ∧ x.toNat ≤ Config.screenW - Config.square - 1 ∧
    1 ≤ y.toNat ∧ y.toNat ≤ screenH - Config.square - 1

/-- Every scene handed to the renderer keeps the square clear of the outermost frame (R88). -/
def State.rendersClear (s : State) : Prop :=
  ∀ x y thick fill, OutEvent.render x y thick fill ∈ s.out → clearOfOuterFrame s.cfg.screenH x y

/-- How many events of the output trace satisfy `p`. -/
def State.outCount (s : State) (p : OutEvent → Bool) : Nat := (s.out.filter p).length

/-- The scene invariant: the phase names an operation (R17) that the configuration reaches (R120), the position is
where the operations behind that phase left it (R12, R88), the flags no SEQ operation writes are as reset and IRQJ
keep them (R20, R21), and every scene handed over so far was clear of the outermost frame (R88). -/
structure SceneInv (s : State) : Prop where
  /-- The configuration is well-formed (R5). -/
  configured : s.cfg.wellFormed = true
  /-- `ph` is a legal phase (R17). -/
  phase : s.ph.toNat < 14
  /-- Phases 7 and 8 are entered only when RESAMPLE_PWM (R120). -/
  resample : s.cfg.resamplePwm = false → s.ph ≠ 7 ∧ s.ph ≠ 8
  /-- From MAPX on `square_x` is in the range R12 gives it; before, after a reset, it has no value (R24). -/
  xRange : 3 ≤ s.ph.toNat → s.squareX.toNat ≤ Config.screenW - Config.square
  /-- From MAPY on `square_y` is in the range R12 gives it; before, after a reset, it has no value (R24). -/
  yRange : 4 ≤ s.ph.toNat → s.squareY.toNat ≤ s.cfg.screenH - Config.square
  /-- Between the clamps and the render the position is clear of the outermost frame (R88): X. -/
  xClear : 5 ≤ s.ph.toNat → 1 ≤ s.squareX.toNat ∧ s.squareX.toNat ≤ Config.screenW - Config.square - 1
  /-- Between the clamps and the render the position is clear of the outermost frame (R88): Y. -/
  yClear : 6 ≤ s.ph.toNat → 1 ≤ s.squareY.toNat ∧ s.squareY.toNat ≤ s.cfg.screenH - Config.square - 1
  /-- The indicator shows the thickness (R21). -/
  indicator : s.ind = s.borderThick
  /-- No operation writes `fill_variant` (R20). -/
  fill : s.fillVariant = s.cfg.fillReset
  /-- Every scene handed over was clear of the outermost frame (R88). -/
  renders : s.rendersClear

/-- The pulse invariant: one `Render` and one `Diag` per tick (R115, R128), the render first (R57). -/
structure PulseInv (s : State) : Prop where
  /-- The configuration is well-formed (R5). -/
  configured : s.cfg.wellFormed = true
  /-- `ph` is a legal phase (R17). -/
  phase : s.ph.toNat < 14
  /-- The `Render` pulses are one ahead of the `Diag` pulses exactly from RNDR to DIAG. -/
  count : s.outCount isRenderStrobe =
    s.outCount isDiagStrobe + (if 7 ≤ s.ph.toNat ∧ s.ph.toNat ≤ 11 then 1 else 0)

end Sys2Proof.Machine
end

