-- ==== Sys2Proof/Certificates/Slice0/Obligations.lean ====
section
/-! DEFINITION. The statements about the machine, rule by rule. A statement that gives an operation's answer as a state
`{ s with … }` says its result, its frame (every field not named is as before) and that it completes. A free value
(an ADC answer, a pick, a turn that is not listed) is never given a value here. -/

open Sys2Proof Sys2Proof.Machine

/-! ### Codes -/

/-- R63: a code decodes to an operation exactly when it is that operation's code: decoding inverts encoding, and no
two codes name one operation. -/
def Obligations.DecodeInvertsEncode : Prop :=
  ∀ (c : Code) (i : Instr), decode c = .ok i ↔ c = encode i

/-- R64: of format SEQ exactly the codes 14 and 15 name no operation; of format IRQ none is reserved. -/
def Obligations.ReservedCodesAreFourteenAndFifteen : Prop :=
  (∀ b : BitVec 4, (decode (.seq b) = .error .reservedPhase ↔ b.toNat = 14 ∨ b.toNat = 15)) ∧
    ∀ b : BitVec 1, ∃ i, decode (.irq b) = .ok i

/-- R60, R61: a few codes written bit by bit from the tables decode to the operations they stand for. -/
def Obligations.WrittenCodesDecode : Prop :=
  decode (.seq 0b0000#4) = .ok .smpx ∧ decode (.seq 0b0101#4) = .ok .clpy ∧ decode (.seq 0b0110#4) = .ok .rndr ∧
    decode (.seq 0b1001#4) = .ok .pwmx ∧ decode (.seq 0b1101#4) = .ok .dlyw ∧
    decode (.irq 0b0#1) = .ok .irqa ∧ decode (.irq 0b1#1) = .ok .irqj

/-! ### Arithmetic -/

/-- R7: `tdiv` is the quotient rounded toward zero. -/
def Obligations.TdivRoundsTowardZero : Prop :=
  ∀ a b : Int, b ≠ 0 → tdiv a b = Int.sign a * Int.sign b * ((a.natAbs / b.natAbs : Nat) : Int)

/-- R80 with R81 (d): for a sample in range the result of `map` is the scaled offset itself, because the final clamp
changes nothing. R81 (d) is an inference the spec marks as its own. -/
def Obligations.MapIsScaledOffset : Prop :=
  ∀ raw center smax : Int, 0 ≤ raw → raw ≤ 4095 → 0 < center → center < 4095 → 0 ≤ smax →
    coordMap raw center smax =
      (if raw < center then Int.tdiv ((raw - center) * Int.tdiv smax 2) center
        else Int.tdiv ((raw - center) * Int.tdiv smax 2) (4095 - center)) + Int.tdiv smax 2

/-- R81 (a), (b): `map` stays in its range, and the centre maps to half of it exactly. -/
def Obligations.MapRangeAndCentre : Prop :=
  ∀ raw center smax : Int, 0 ≤ raw → raw ≤ 4095 → 0 < center → center < 4095 → 0 ≤ smax →
    0 ≤ coordMap raw center smax ∧ coordMap raw center smax ≤ smax ∧
      coordMap center center smax = Int.tdiv smax 2

/-- R81 (c): the rails map to 0 and to twice the half. An inference the spec marks as its own. -/
def Obligations.MapRails : Prop :=
  ∀ center smax : Int, 0 < center → center < 4095 → 0 ≤ smax →
    coordMap 0 center smax = 0 ∧ coordMap 4095 center smax = 2 * Int.tdiv smax 2

/-- R81 (e): `map` is monotone in the sample. An inference the spec marks as its own. -/
def Obligations.MapMonotone : Prop :=
  ∀ raw raw' center smax : Int, 0 ≤ raw → raw ≤ raw' → raw' ≤ 4095 → 0 < center → center < 4095 → 0 ≤ smax →
    coordMap raw center smax ≤ coordMap raw' center smax

/-- R81 (f): rounding is toward the middle from both sides: on the X axis the samples that map to the middle are
exactly 1907 to 1975. An inference the spec works out. -/
def Obligations.MapMiddleBand : Prop :=
  ∀ raw : Int, 0 ≤ raw → raw ≤ 4095 → (coordMap raw 1939 119 = 59 ↔ 1907 ≤ raw ∧ raw ≤ 1975)

/-- R90 with R91: `brightness` case by case, the enable first, then the deadzone, then the guard. -/
def Obligations.BrightnessFormula : Prop :=
  ∀ raw center : Int, 0 ≤ raw → raw ≤ 4095 → 0 ≤ center → center ≤ 4095 →
    brightness raw center false = 0 ∧
    (-40 < raw - center → raw - center < 40 → brightness raw center true = 0) ∧
    (40 ≤ raw - center → 4095 - center = 40 → brightness raw center true = 0) ∧
    (raw - center ≤ -40 → center = 40 → brightness raw center true = 0) ∧
    (40 ≤ raw - center → 4095 - center ≠ 40 →
      brightness raw center true = Int.tdiv ((raw - center - 40) * 65535) (4095 - center - 40)) ∧
    (raw - center ≤ -40 → center ≠ 40 →
      brightness raw center true = Int.tdiv ((center - raw - 40) * 65535) (center - 40))

/-- R92 (c): the duty is in range for every sample and centre, and in a well-formed configuration it is full exactly
at the rails. An inference the spec marks as its own. -/
def Obligations.BrightnessRange : Prop :=
  ∀ (raw center : Int) (en : Bool), 0 ≤ raw → raw ≤ 4095 → 0 ≤ center → center ≤ 4095 →
    0 ≤ brightness raw center en ∧ brightness raw center en ≤ 65535 ∧
      (40 < center → 40 < 4095 - center → (brightness raw center true = 65535 ↔ raw = 0 ∨ raw = 4095))

/-- R92 (f): on each side of the centre the duty is monotone in the distance from it. -/
def Obligations.BrightnessMonotone : Prop :=
  ∀ (raw raw' center : Int) (en : Bool), 0 ≤ raw → raw ≤ raw' → raw' ≤ 4095 → 40 < center → 40 < 4095 - center →
    (center ≤ raw → brightness raw center en ≤ brightness raw' center en) ∧
      (raw' ≤ center → brightness raw' center en ≤ brightness raw center en)

/-- R102: the debounce test is the wrap-safe comparison with 200000; and so (R110), for two true times less than one
wrap apart, it is the comparison of the true difference, across the wrap of the counter too. -/
def Obligations.AcceptComparesTrueTime : Prop :=
  (∀ now last : Stamp, accept now last = true ↔ 200000 ≤ (now - last).toNat) ∧
    ∀ T0 T1 : Nat, T0 ≤ T1 → T1 - T0 < 4294967296 →
      (accept (BitVec.ofNat 32 T1) (BitVec.ofNat 32 T0) = true ↔ 200000 ≤ T1 - T0)

/-- R110: after whole wraps of true time the test aliases: less than the window beyond them it rejects. An inference
the spec marks as its own. -/
def Obligations.AcceptAliasesAfterWraps : Prop :=
  ∀ T k d : Nat, d < 200000 → accept (BitVec.ofNat 32 (T + k * 4294967296 + d)) (BitVec.ofNat 32 T) = false

/-! ### The operations -/

/-- R71: SMPX, phase 0. The sample is the environment's answer for the channel just selected. -/
def Obligations.SmpxSamplesX : Prop :=
  decode (.seq 0#4) = .ok .smpx ∧ ∀ s : State, s.cfg.wellFormed = true →
    exec .smpx s = .next { s with
      adcSel := BitVec.ofNat 1 s.cfg.chX
      rawX := (s.env.adcRead (BitVec.ofNat 1 s.cfg.chX)).1
      env := (s.env.adcRead (BitVec.ofNat 1 s.cfg.chX)).2
      ph := 1 }

/-- R72: SMPY, phase 1. -/
def Obligations.SmpySamplesY : Prop :=
  decode (.seq 1#4) = .ok .smpy ∧ ∀ s : State, s.cfg.wellFormed = true →
    exec .smpy s = .next { s with
      adcSel := BitVec.ofNat 1 s.cfg.chY
      rawY := (s.env.adcRead (BitVec.ofNat 1 s.cfg.chY)).1
      env := (s.env.adcRead (BitVec.ofNat 1 s.cfg.chY)).2
      ph := 2 }

/-- R73 (its pseudocode): RSMX, phase 7. -/
def Obligations.RsmxSamplesXAgain : Prop :=
  decode (.seq 7#4) = .ok .rsmx ∧ ∀ s : State, s.cfg.wellFormed = true →
    exec .rsmx s = .next { s with
      adcSel := BitVec.ofNat 1 s.cfg.chX
      rawX := (s.env.adcRead (BitVec.ofNat 1 s.cfg.chX)).1
      env := (s.env.adcRead (BitVec.ofNat 1 s.cfg.chX)).2
      ph := 8 }

/-- R74 (its pseudocode): RSMY, phase 8. -/
def Obligations.RsmySamplesYAgain : Prop :=
  decode (.seq 8#4) = .ok .rsmy ∧ ∀ s : State, s.cfg.wellFormed = true →
    exec .rsmy s = .next { s with
      adcSel := BitVec.ofNat 1 s.cfg.chY
      rawY := (s.env.adcRead (BitVec.ofNat 1 s.cfg.chY)).1
      env := (s.env.adcRead (BitVec.ofNat 1 s.cfg.chY)).2
      ph := 9 }

/-- The model's choice (log entries 3 and 11, DESIGN CHOICE), by which the ADC's answers are draws for the selected
channel: each channel has a list of its own, its first listed answer is taken, the other channel's list is untouched,
and time, turns and picks never change; where none is listed only the draw counter advances. -/
def Obligations.AdcAnswersItsChannel : Prop :=
  ∀ (e : Env) (v : Sample) (rest : List Sample),
    (e.adc0 = v :: rest → e.adcRead 0 = (v, { e with adc0 := rest })) ∧
    (e.adc1 = v :: rest → e.adcRead 1 = (v, { e with adc1 := rest })) ∧
    (e.adc0 = [] → (e.adcRead 0).2 = { e with draws := e.draws + 1 }) ∧
    (e.adc1 = [] → (e.adcRead 1).2 = { e with draws := e.draws + 1 })

/-- R82: MAPX, phase 2. `square_x` becomes the mapped coordinate, reflected if INVERT_X, and it fits the register. -/
def Obligations.MapxMapsX : Prop :=
  decode (.seq 2#4) = .ok .mapx ∧ ∀ s : State, s.cfg.wellFormed = true →
    ∃ v : Coord, exec .mapx s = .next { s with squareX := v, ph := 3 } ∧
      (v.toNat : Int) =
        (if s.cfg.invertX then 120 - coordMap s.rawX.toNat s.cfg.centerX s.cfg.smaxX
          else coordMap s.rawX.toNat s.cfg.centerX s.cfg.smaxX)

/-- R83: MAPY, phase 3. `square_y` becomes the reflected coordinate, and it fits the register. -/
def Obligations.MapyMapsY : Prop :=
  decode (.seq 3#4) = .ok .mapy ∧ ∀ s : State, s.cfg.wellFormed = true →
    ∃ v : Coord, exec .mapy s = .next { s with squareY := v, ph := 4 } ∧
      (v.toNat : Int) = (s.cfg.screenH : Int) - 8 - coordMap s.rawY.toNat s.cfg.centerY s.cfg.smaxY

/-- R84, R85: CLPX, phase 4. `square_x` is clamped to `[bo, 120 - bo]` for the current thickness, so it is in that range
afterwards (R88), and a value in range is unchanged. -/
def Obligations.ClpxClampsX : Prop :=
  decode (.seq 4#4) = .ok .clpx ∧ ∀ s : State, s.cfg.wellFormed = true →
    ∃ v : Coord, exec .clpx s = .next { s with squareX := v, ph := 5 } ∧
      (v.toNat : Int) = min (max (s.squareX.toNat : Int) (if s.borderThick then 3 else 1))
        (128 - 8 - (if s.borderThick then 3 else 1)) ∧
      (if s.borderThick then 3 else 1) ≤ v.toNat ∧ v.toNat ≤ 128 - 8 - (if s.borderThick then 3 else 1)

/-- R84, R86: CLPY, phase 5. `square_y` is clamped to `[bo, SCREEN_H - 8 - bo]` for the current thickness, so it is in that range
afterwards (R88). -/
def Obligations.ClpyClampsY : Prop :=
  decode (.seq 5#4) = .ok .clpy ∧ ∀ s : State, s.cfg.wellFormed = true →
    ∃ v : Coord, exec .clpy s = .next { s with squareY := v, ph := 6 } ∧
      (v.toNat : Int) = min (max (s.squareY.toNat : Int) (if s.borderThick then 3 else 1))
        ((s.cfg.screenH : Int) - 8 - (if s.borderThick then 3 else 1)) ∧
      (if s.borderThick then 3 else 1) ≤ v.toNat ∧ v.toNat ≤ s.cfg.screenH - 8 - (if s.borderThick then 3 else 1)

/-- R115: RNDR, phase 6. One `Render` event with the snapshot of this step; the next phase is 7 or 9 by RESAMPLE_PWM. -/
def Obligations.RndrHandsSceneOver : Prop :=
  decode (.seq 6#4) = .ok .rndr ∧ ∀ s : State, s.cfg.wellFormed = true →
    exec .rndr s = .next { s with
      out := s.out ++ [.render s.squareX s.squareY s.borderThick s.fillVariant]
      ph := if s.cfg.resamplePwm then 7 else 9 }

/-- R93: PWMX, phase 9. `duty_x` becomes the brightness of `raw_x` under the current enable, and it fits the
register and shows on its port. -/
def Obligations.PwmxAppliesDuty : Prop :=
  decode (.seq 9#4) = .ok .pwmx ∧ ∀ s : State, s.cfg.wellFormed = true →
    ∃ v : Duty, exec .pwmx s = .next { s with dutyX := v, ph := 10 } ∧
      (v.toNat : Int) = brightness s.rawX.toNat s.cfg.centerX s.pwmEnabled ∧
      ({ s with dutyX := v, ph := 10 } : State).levels.pwmLevelX = v

/-- R94: PWMY, phase 10. `duty_y` becomes the brightness of `raw_y` under the current enable, and it fits the
register and shows on its port. -/
def Obligations.PwmyAppliesDuty : Prop :=
  decode (.seq 10#4) = .ok .pwmy ∧ ∀ s : State, s.cfg.wellFormed = true →
    ∃ v : Duty, exec .pwmy s = .next { s with dutyY := v, ph := 11 } ∧
      (v.toNat : Int) = brightness s.rawY.toNat s.cfg.centerY s.pwmEnabled ∧
      ({ s with dutyY := v, ph := 11 } : State).levels.pwmLevelY = v

/-- R128: DIAG, phase 11. One `Diag` event, nothing else but the phase. -/
def Obligations.DiagPulses : Prop :=
  decode (.seq 11#4) = .ok .diag ∧ ∀ s : State, s.cfg.wellFormed = true →
    exec .diag s = .next { s with out := s.out ++ [.diag], ph := 12 }

/-- R130: DLYS, phase 12. `t_mark` becomes the counter. -/
def Obligations.DlysMarksTime : Prop :=
  decode (.seq 12#4) = .ok .dlys ∧ ∀ s : State, s.cfg.wellFormed = true →
    exec .dlys s = .next { s with tMark := BitVec.ofNat 32 s.env.time, ph := 13 }

/-- R131: DLYW, phase 13. Phase 0 when the wrap-safe difference has reached 50000, else phase 13 again; nothing else changes. -/
def Obligations.DlywWaits : Prop :=
  decode (.seq 13#4) = .ok .dlyw ∧ ∀ s : State, s.cfg.wellFormed = true →
    exec .dlyw s = .next { s with
      ph := if 50000 ≤ (BitVec.ofNat 32 s.env.time - s.tMark).toNat then 0 else 13 }

/-- R103: IRQA, line 0, enabled by its latch alone or by R137's choice. An accepted edge stamps `last_a` and toggles `pwm_enabled`; accepted or not, the latch is cleared and
nothing else changes. -/
def Obligations.IrqaServesButtonA : Prop :=
  decode (.irq 0#1) = .ok .irqa ∧
  (∀ s : State, (s.fetch.1 = .irq 0#1 → s.irqPendA = true) ∧
    (s.irqPendA = true → s.irqPendJ = false → s.fetch.1 = .irq 0#1)) ∧
  ∀ s : State, s.cfg.wellFormed = true →
    exec .irqa s = .next
      (if 200000 ≤ (BitVec.ofNat 32 s.env.time - s.lastA).toNat then
        { s with lastA := BitVec.ofNat 32 s.env.time, pwmEnabled := !s.pwmEnabled, irqPendA := false }
      else { s with irqPendA := false })

/-- R104: IRQJ, line 1, enabled by its latch alone or by R137's choice. An accepted edge stamps `last_j` and toggles `border_thick` and `ind` together; accepted or not, the
latch is cleared and nothing else changes. -/
def Obligations.IrqjServesJoystickButton : Prop :=
  decode (.irq 1#1) = .ok .irqj ∧
  (∀ s : State, (s.fetch.1 = .irq 1#1 → s.irqPendJ = true) ∧
    (s.irqPendJ = true → s.irqPendA = false → s.fetch.1 = .irq 1#1)) ∧
  ∀ s : State, s.cfg.wellFormed = true →
    exec .irqj s = .next
      (if 200000 ≤ (BitVec.ofNat 32 s.env.time - s.lastJ).toNat then
        { s with lastJ := BitVec.ofNat 32 s.env.time, borderThick := !s.borderThick, ind := !s.ind,
                 irqPendJ := false }
      else { s with irqPendJ := false })

/-! ### Frames and noninterference -/

/-- R10 with the summary table: an operation changes no register that the table's "written by" column does not give
it; no operation changes the configuration, the time, the turns or the picks; only the four sampling operations
take an ADC answer; only RNDR and DIAG emit. -/
def Obligations.OperationsWriteOnlyTheirRegisters : Prop :=
  ∀ (i : Instr) (s t : State), exec i s = .next t →
    (∀ r : Reg, r ∉ writesOf i → t.regVal r = s.regVal r) ∧
      t.cfg = s.cfg ∧ t.env.time = s.env.time ∧ t.env.turns = s.env.turns ∧ t.env.picks = s.env.picks ∧
      (i ≠ .smpx → i ≠ .smpy → i ≠ .rsmx → i ≠ .rsmy → t.env = s.env) ∧
      (i ≠ .rndr → i ≠ .diag → t.out = s.out)

/-- R10 with the summary table: an operation's results depend on no register but those the table's "read by" column
gives it: from two states that agree on them, on the configuration and on the environment, it answers alike, writes
the same values, leaves the same environment and emits the same events. -/
def Obligations.OperationsReadOnlyTheirRegisters : Prop :=
  ∀ (i : Instr) (s s' t : State), s.cfg = s'.cfg → s.env = s'.env →
    (∀ r ∈ readsOf i, s.regVal r = s'.regVal r) → exec i s = .next t →
    ∃ t', exec i s' = .next t' ∧ t.env = t'.env ∧ (∀ r ∈ writesOf i, t.regVal r = t'.regVal r) ∧
      ∃ evs, t.out = s.out ++ evs ∧ t'.out = s'.out ++ evs

/-- R22, R141: SEQ writes no flag, no debounce timestamp and no latch; DISP writes no register of SEQ, not `ph`, not
`fill_variant`, and emits nothing. -/
def Obligations.ContextsWriteApart : Prop :=
  ∀ (i : Instr) (s t : State), exec i s = .next t →
    (i.agent = .seq →
      t.pwmEnabled = s.pwmEnabled ∧ t.borderThick = s.borderThick ∧ t.fillVariant = s.fillVariant ∧ t.ind = s.ind ∧
        t.lastA = s.lastA ∧ t.lastJ = s.lastJ ∧ t.irqPendA = s.irqPendA ∧ t.irqPendJ = s.irqPendJ) ∧
    (i.agent = .disp →
      t.ph = s.ph ∧ t.rawX = s.rawX ∧ t.rawY = s.rawY ∧ t.squareX = s.squareX ∧ t.squareY = s.squareY ∧
        t.dutyX = s.dutyX ∧ t.dutyY = s.dutyY ∧ t.tMark = s.tMark ∧ t.adcSel = s.adcSel ∧
        t.fillVariant = s.fillVariant ∧ t.out = s.out ∧ t.env = s.env)

/-- R137: the two services commute: in either order, at one reading of the counter, they leave the same state. -/
def Obligations.ServicesCommute : Prop :=
  ∀ s t u : State, exec .irqa s = .next t → exec .irqj t = .next u →
    ∃ v, exec .irqj s = .next v ∧ exec .irqa v = .next u

/-- R23: the bit positions of the packed views FLAGS and IRQP. The numbering is the spec's own (D16). -/
def Obligations.PackedFlagPositions : Prop :=
  ∀ s : State,
    s.flagsWord.getLsbD 0 = s.pwmEnabled ∧ s.flagsWord.getLsbD 1 = s.borderThick ∧
      s.flagsWord.getLsbD 2 = s.fillVariant ∧ s.flagsWord.getLsbD 3 = s.ind ∧
      s.irqpWord.getLsbD 0 = s.irqPendA ∧ s.irqpWord.getLsbD 1 = s.irqPendJ

/-! ### The step -/

/-- R9, R120: when the turn is the block's and its next code decodes, the step is that operation's meaning, on the
state with the turn (and, under ANY, the pick) taken off the environment's lists. -/
def Obligations.StepRunsDecodedOperation : Prop :=
  ∀ (s : State) (i : Instr), s.cfg.wellFormed = true → s.takeTurn.1 = .block →
    decode s.takeTurn.2.fetch.1 = .ok i → step s = exec i s.takeTurn.2.fetch.2

/-- The word of a table row, placed by `withFetchWord`, is what the very next step runs. The placing is the model's
(log entry 6). -/
def Obligations.PlacedWordRunsNext : Prop :=
  ∀ (s : State) (nbits w : Nat) (i : Instr), s.cfg.wellFormed = true → decodeTableWord nbits w = some i →
    step (s.withFetchWord nbits w) = exec i (s.placeWord nbits w)

/-- R121, R105, R138, R139: while a latch is set the block's step is a service: it clears exactly one set latch and
leaves `ph` and every register of SEQ as they were. -/
def Obligations.SetLatchHoldsSequencer : Prop :=
  ∀ (s : State) (rest : List Turn), s.cfg.wellFormed = true → s.env.turns = .block :: rest →
    s.irqPendA = true ∨ s.irqPendJ = true →
    ∃ t, step s = .next t ∧
      ((s.irqPendA = true ∧ t.irqPendA = false ∧ t.irqPendJ = s.irqPendJ) ∨
        (s.irqPendJ = true ∧ t.irqPendJ = false ∧ t.irqPendA = s.irqPendA)) ∧
      t.ph = s.ph ∧ t.rawX = s.rawX ∧ t.rawY = s.rawY ∧ t.squareX = s.squareX ∧ t.squareY = s.squareY ∧
      t.dutyX = s.dutyX ∧ t.dutyY = s.dutyY ∧ t.tMark = s.tMark ∧ t.adcSel = s.adcSel ∧ t.out = s.out ∧
      t.env.turns = rest ∧ t.cfg = s.cfg

/-- R137 for A_FIRST and J_FIRST: when both latches are set IRQ_PRIORITY decides which is served. Under ANY the rule only
asks that both orders be admitted; that the line listed next in `picks` is the one served is the model's choice (log
entry 10, DESIGN CHOICE). -/
def Obligations.PriorityDecidesLine : Prop :=
  ∀ (s t : State) (rest : List Turn), s.cfg.wellFormed = true → s.env.turns = .block :: rest →
    s.irqPendA = true → s.irqPendJ = true → step s = .next t →
    (s.cfg.irqPriority = .aFirst → t.irqPendA = false ∧ t.irqPendJ = true) ∧
    (s.cfg.irqPriority = .jFirst → t.irqPendA = true ∧ t.irqPendJ = false) ∧
    (∀ picks, s.cfg.irqPriority = .any → s.env.picks = .a :: picks → t.irqPendA = false ∧ t.irqPendJ = true) ∧
    (∀ picks, s.cfg.irqPriority = .any → s.env.picks = .j :: picks → t.irqPendA = true ∧ t.irqPendJ = false)

/-- R100, R101: an edge event sets its line's latch and changes nothing else; on a latch already set it changes
nothing of the block. -/
def Obligations.EdgeEventsSetLatches : Prop :=
  ∀ (s : State) (rest : List Turn), s.cfg.wellFormed = true →
    (s.env.turns = .env .edga :: rest →
      step s = .next { s with irqPendA := true, env := { s.env with turns := rest } } ∧
        (s.irqPendA = true → step s = .next { s with env := { s.env with turns := rest } })) ∧
    (s.env.turns = .env .edgj :: rest →
      step s = .next { s with irqPendJ := true, env := { s.env with turns := rest } } ∧
        (s.irqPendJ = true → step s = .next { s with env := { s.env with turns := rest } }))

/-- R47: a time event adds to true time and changes nothing of the block; the port `now` is the true time modulo
`2^32`. -/
def Obligations.TimeEventAdvancesCounter : Prop :=
  ∀ (s : State) (us : Nat) (rest : List Turn), s.cfg.wellFormed = true → s.env.turns = .env (.time us) :: rest →
    ∃ t, step s = .next t ∧ t = { s with env := { s.env with turns := rest, time := s.env.time + us } } ∧
      t.now.toNat = (s.env.time + us) % 4294967296

/-- R155, R156: RST puts every register, flag and latch that has a reset value at it, and leaves the counter and the
configuration. That RST empties the output trace is the model's reading of R155's "starts empty" (log entry 7,
DEDUCED), as is that the rest of the environment's data stays. -/
def Obligations.ResetEventRestores : Prop :=
  ∀ (s : State) (rest : List Turn), s.cfg.wellFormed = true → s.env.turns = .env .rst :: rest →
    ∃ t, step s = .next t ∧ t.ph = 0 ∧ t.pwmEnabled = true ∧ t.borderThick = false ∧ t.ind = false ∧
      t.fillVariant = s.cfg.fillReset ∧ t.irqPendA = false ∧ t.irqPendJ = false ∧ t.lastA = 0 ∧ t.lastJ = 0 ∧
      t.dutyX = 0 ∧ t.dutyY = 0 ∧ t.out = [] ∧ t.cfg = s.cfg ∧ t.env = { s.env with turns := rest }

/-- R155: the values the spec gives for reset, at `State.reset` (FILL_RESET at its default 0, R4). The values of the
six registers the spec leaves unspecified (log entry 1) are not stated. -/
def Obligations.ResetValues : Prop :=
  State.reset.ph = 0 ∧ State.reset.pwmEnabled = true ∧ State.reset.borderThick = false ∧ State.reset.ind = false ∧
    State.reset.fillVariant = false ∧ State.reset.irqPendA = false ∧ State.reset.irqPendJ = false ∧
    State.reset.lastA = 0 ∧ State.reset.lastJ = 0 ∧ State.reset.dutyX = 0 ∧ State.reset.dutyY = 0 ∧
    State.reset.out = [] ∧ State.reset.context = .seq

/-- R5: what a well-formed configuration is, and that the model refuses any other: no step and no operation has a
meaning under it. -/
def Obligations.IllFormedConfigurationRefused : Prop :=
  (∀ c : Config, c.wellFormed = true ↔
    40 < c.centerX ∧ 40 < 4095 - c.centerX ∧ 40 < c.centerY ∧ 40 < 4095 - c.centerY ∧
      c.chX ≠ c.chY ∧ (c.chX = 0 ∨ c.chX = 1) ∧ (c.chY = 0 ∨ c.chY = 1) ∧
      14 ≤ c.screenH ∧ c.screenH ≤ 256 ∧ c.smaxX = 128 - 8 - 1 ∧ c.smaxY = c.screenH - 8 - 1) ∧
  ∀ s : State, s.cfg.wellFormed = false →
    step s = .refused .illFormedConfig ∧ ∀ i, exec i s = .refused .illFormedConfig

/-- At phase 14 or 15, with no latch set, the block has no step. R64 lets a model leave the two values out or leave SEQ
stuck at them; that they are representable and that being stuck is the fault `stuckPhase` is the model's choice (log
entry 8, DESIGN CHOICE). -/
def Obligations.ReservedPhaseIsStuck : Prop :=
  ∀ (s : State) (rest : List Turn), s.cfg.wellFormed = true → s.env.turns = .block :: rest →
    s.irqPendA = false → s.irqPendJ = false → 14 ≤ s.ph.toNat → step s = .fault .stuckPhase

/-- R120: the phase sequence: with no latch set the block's step takes `ph` to `next(ph)`, DLYW to 0 or 13. -/
def Obligations.PhaseSequence : Prop :=
  ∀ (s : State) (rest : List Turn), s.cfg.wellFormed = true → s.env.turns = .block :: rest →
    s.irqPendA = false → s.irqPendJ = false → s.ph.toNat < 14 →
    ∃ t, step s = .next t ∧
      (s.ph = 6 → t.ph = if s.cfg.resamplePwm then 7 else 9) ∧
      (s.ph = 13 → t.ph =
        if 50000 ≤ (BitVec.ofNat 32 s.env.time - s.tMark).toNat then 0 else 13) ∧
      (s.ph ≠ 6 → s.ph ≠ 13 → t.ph.toNat = s.ph.toNat + 1)

/-- R65 with R120, R121, R105 and R137: a line that names a step that is not enabled is illegal: a line of SEQ while a
latch is set, a line of SEQ whose operation `ph` does not name, a service while its latch is clear, and a service
while both latches are set and IRQ_PRIORITY puts the other line first. That an illegal line is one the trace does not
get past (`none`) is the model's choice (log entry 14, DESIGN CHOICE). -/
def Obligations.DisabledStepsAreIllegalLines : Prop :=
  ∀ (s : State) (i : Instr) (adc : Option Sample) (now : Option Stamp),
    (i.agent = .seq → (s.irqPendA = true ∨ s.irqPendJ = true) → s.traceStep (.op i adc now) = none) ∧
      (i.agent = .seq → encode i ≠ .seq s.ph → s.traceStep (.op i adc now) = none) ∧
      (s.irqPendA = false → s.traceStep (.op .irqa adc now) = none) ∧
      (s.irqPendJ = false → s.traceStep (.op .irqj adc now) = none) ∧
      (s.irqPendA = true → s.irqPendJ = true → s.cfg.irqPriority = .jFirst →
        s.traceStep (.op .irqa adc now) = none) ∧
      (s.irqPendA = true → s.irqPendJ = true → s.cfg.irqPriority = .aFirst →
        s.traceStep (.op .irqj adc now) = none)

/-! ### Invariants and runs -/

/-- R155: the scene invariant holds at reset. It says nothing of the registers that have no reset value. -/
def Obligations.SceneInvAtReset : Prop :=
  SceneInv State.reset

/-- R12, R17, R20, R21, R88, R120: every step keeps the scene invariant; in particular every scene handed to the
renderer, whatever the presses, keeps the square on the screen and clear of the outermost frame. -/
def Obligations.SceneInvKept : Prop :=
  ∀ s t : State, SceneInv s → step s = .next t → SceneInv t

/-- R115, R128: the pulse invariant holds at reset. -/
def Obligations.PulseInvAtReset : Prop :=
  PulseInv State.reset

/-- R57, R115, R128: every step keeps the pulse invariant: one `Render` and one `Diag` per tick, the render first. The
step RST keeps it because RST empties the output trace, which is the model's reading of R155 (log entry 7, DEDUCED). -/
def Obligations.PulseInvKept : Prop :=
  ∀ s t : State, PulseInv s → step s = .next t → PulseInv t

/-- R132, R135: from a state with a well-formed configuration and a legal phase no run stops, whatever the environment
does: the machine answers a next state for ever. -/
def Obligations.RunsNeverStop : Prop :=
  ∀ s : State, s.cfg.wellFormed = true → s.ph.toNat < 14 → ∀ k : Nat,
    ∃ t, Host.Core.run Sys2Proof.core k s = .next t

/-- R131, R133: the end-of-tick delay is never short: a run that is in phase 13 with `t_mark` taken at true time `T0`
and leaves phase 13 without reset does so at least 50000 microseconds of true time after `T0`, whatever presses and
wraps fall in between. -/
def Obligations.DelayIsNeverShort : Prop :=
  ∀ (s t : State) (k T0 : Nat), s.cfg.wellFormed = true → s.ph = 13 → s.tMark = BitVec.ofNat 32 T0 →
    T0 ≤ s.env.time → k ≤ s.env.turns.length → Turn.env .rst ∉ s.env.turns →
    Host.Core.run Sys2Proof.core k s = .next t → t.ph ≠ 13 → T0 + 50000 ≤ t.env.time

/-- R133: two successive `Render` events are at least 50000 microseconds of true time apart, in any run without reset
from the phases just after a render. -/
def Obligations.RendersAreSpaced : Prop :=
  ∀ (s t : State) (k : Nat), s.cfg.wellFormed = true → 7 ≤ s.ph.toNat → s.ph.toNat ≤ 12 →
    k ≤ s.env.turns.length → Turn.env .rst ∉ s.env.turns → Host.Core.run Sys2Proof.core k s = .next t →
    s.outCount isRenderStrobe < t.outCount isRenderStrobe → s.env.time + 50000 ≤ t.env.time

/-- R14, R102, R103: button A is debounced: after an edge accepted at true time `T0`, in any run without reset
`pwm_enabled` and `last_a` stay as they are until 200000 microseconds of true time have passed, however the
contacts bounce. -/
def Obligations.ButtonAIsDebounced : Prop :=
  ∀ (s t : State) (k T0 : Nat), s.cfg.wellFormed = true → s.lastA = BitVec.ofNat 32 T0 → T0 ≤ s.env.time →
    k ≤ s.env.turns.length → Turn.env .rst ∉ s.env.turns → Host.Core.run Sys2Proof.core k s = .next t →
    t.env.time < T0 + 200000 → t.pwmEnabled = s.pwmEnabled ∧ t.lastA = s.lastA

/-- R14, R102, R104: the joystick button is debounced: the same for `border_thick`, `ind` and `last_j`. -/
def Obligations.JoystickButtonIsDebounced : Prop :=
  ∀ (s t : State) (k T0 : Nat), s.cfg.wellFormed = true → s.lastJ = BitVec.ofNat 32 T0 → T0 ≤ s.env.time →
    k ≤ s.env.turns.length → Turn.env .rst ∉ s.env.turns → Host.Core.run Sys2Proof.core k s = .next t →
    t.env.time < T0 + 200000 →
    t.borderThick = s.borderThick ∧ t.ind = s.ind ∧ t.lastJ = s.lastJ

/-- R67, R57, R120: one whole tick (`TICK(ax, ay, t0, t1)`, RESAMPLE_PWM = false) from a tick boundary: the trace is
legal, it ends at phase 0, both axes hold the new samples, the position and the duties are those of the samples, and
exactly one `Render`, with that position, and then one `Diag` are emitted. -/
def Obligations.TickComputesScene : Prop :=
  ∀ (s : State) (ax ay : Sample) (t0 t1 : Stamp), s.cfg.wellFormed = true → s.cfg.resamplePwm = false →
    s.tickBoundary = true → 50000 ≤ (t1 - t0).toNat →
    ∃ t, State.runTrace (tick ax ay t0 t1) s = some t ∧ t.tickBoundary = true ∧
      t.rawX = ax ∧ t.rawY = ay ∧ t.tMark = t0 ∧ t.now = t1 ∧ t.adcSel = BitVec.ofNat 1 s.cfg.chY ∧
      (t.squareX.toNat : Int) = borderClamp 128 s.borderThick
        (if s.cfg.invertX then 120 - coordMap ax.toNat s.cfg.centerX s.cfg.smaxX
          else coordMap ax.toNat s.cfg.centerX s.cfg.smaxX) ∧
      (t.squareY.toNat : Int) = borderClamp s.cfg.screenH s.borderThick
        ((s.cfg.screenH : Int) - 8 - coordMap ay.toNat s.cfg.centerY s.cfg.smaxY) ∧
      (t.dutyX.toNat : Int) = brightness ax.toNat s.cfg.centerX s.pwmEnabled ∧
      (t.dutyY.toNat : Int) = brightness ay.toNat s.cfg.centerY s.pwmEnabled ∧
      t.out = s.out ++ [.render t.squareX t.squareY s.borderThick s.fillVariant, .diag] ∧
      t.pwmEnabled = s.pwmEnabled ∧ t.borderThick = s.borderThick ∧ t.ind = s.ind ∧
      t.fillVariant = s.fillVariant ∧ t.lastA = s.lastA ∧ t.lastJ = s.lastJ ∧ t.cfg = s.cfg

/-- R67, R73, R74, R165: one whole tick with RESAMPLE_PWM = true (`TICK2(ax, ay, bx, by, t0, t1)`): the position comes
from the first samples, the duties from the second. -/
def Obligations.TickWithResampling : Prop :=
  ∀ (s : State) (ax ay bx bY : Sample) (t0 t1 : Stamp), s.cfg.wellFormed = true → s.cfg.resamplePwm = true →
    s.tickBoundary = true → 50000 ≤ (t1 - t0).toNat →
    ∃ t, State.runTrace (tick2 ax ay bx bY t0 t1) s = some t ∧ t.tickBoundary = true ∧
      t.rawX = bx ∧ t.rawY = bY ∧ t.tMark = t0 ∧
      (t.squareX.toNat : Int) = borderClamp 128 s.borderThick
        (if s.cfg.invertX then 120 - coordMap ax.toNat s.cfg.centerX s.cfg.smaxX
          else coordMap ax.toNat s.cfg.centerX s.cfg.smaxX) ∧
      (t.squareY.toNat : Int) = borderClamp s.cfg.screenH s.borderThick
        ((s.cfg.screenH : Int) - 8 - coordMap ay.toNat s.cfg.centerY s.cfg.smaxY) ∧
      (t.dutyX.toNat : Int) = brightness bx.toNat s.cfg.centerX s.pwmEnabled ∧
      (t.dutyY.toNat : Int) = brightness bY.toNat s.cfg.centerY s.pwmEnabled ∧
      t.out = s.out ++ [.render t.squareX t.squareY s.borderThick s.fillVariant, .diag]

/-- R67 with R121, R105 and R137: when a pseudo-operation is a legal piece of a trace, and what it leaves. TICK is legal
exactly at a tick boundary, with RESAMPLE_PWM = false and `t1 - t0 mod 2^32 >= 50000`, TICK2 the same with
RESAMPLE_PWM = true; either ends at a tick boundary, and a shorter one is never a partial tick. PRESSA (PRESSJ) is
legal exactly where line A (J) may be served next once its latch is set; it clears that latch and leaves the other.
That an illegal pseudo-operation is one the trace does not get past (`none`), and that nothing is legal under an
ill-formed configuration, is the model's choice (log entry 14, DESIGN CHOICE, and log entry 5, DEDUCED). -/
def Obligations.PseudoOperationsAreLegalExactly : Prop :=
  (∀ (s : State) (ax ay : Sample) (t0 t1 : Stamp),
    ((∃ t, s.runPseudo (.tick ax ay t0 t1) = some t) ↔
      s.cfg.wellFormed = true ∧ s.cfg.resamplePwm = false ∧ s.tickBoundary = true ∧ 50000 ≤ (t1 - t0).toNat) ∧
    ∀ t, s.runPseudo (.tick ax ay t0 t1) = some t → t.tickBoundary = true) ∧
  (∀ (s : State) (ax ay bx bY : Sample) (t0 t1 : Stamp),
    ((∃ t, s.runPseudo (.tick2 ax ay bx bY t0 t1) = some t) ↔
      s.cfg.wellFormed = true ∧ s.cfg.resamplePwm = true ∧ s.tickBoundary = true ∧ 50000 ≤ (t1 - t0).toNat) ∧
    ∀ t, s.runPseudo (.tick2 ax ay bx bY t0 t1) = some t → t.tickBoundary = true) ∧
  (∀ (s : State) (ax ay bx bY : Sample) (t0 t1 : Stamp), (t1 - t0).toNat < 50000 →
    s.runPseudo (.tick ax ay t0 t1) = none ∧ s.runPseudo (.tick2 ax ay bx bY t0 t1) = none) ∧
  (∀ (s : State) (now : Stamp),
    ((∃ t, s.runPseudo (.pressA now) = some t) ↔
      s.cfg.wellFormed = true ∧ (s.irqPendJ = false ∨ s.cfg.irqPriority ≠ .jFirst)) ∧
    ∀ t, s.runPseudo (.pressA now) = some t → t.irqPendA = false ∧ t.irqPendJ = s.irqPendJ) ∧
  (∀ (s : State) (now : Stamp),
    ((∃ t, s.runPseudo (.pressJ now) = some t) ↔
      s.cfg.wellFormed = true ∧ (s.irqPendA = false ∨ s.cfg.irqPriority ≠ .aFirst)) ∧
    ∀ t, s.runPseudo (.pressJ now) = some t → t.irqPendJ = false ∧ t.irqPendA = s.irqPendA)
end

