-- ==== Sys2Proof/Laws/Arith.lean ====
section
/-! SUPPORT. The wrap-safe difference of two readings of the counter, in true time. -/

namespace Sys2Proof.Machine

open Sys2Proof

/-- The difference of two readings is the true difference modulo one wrap (R6, R47). -/
theorem elapsed_ofNat {T0 T1 : Nat} (h : T0 ≤ T1) :
    elapsed (BitVec.ofNat 32 T1) (BitVec.ofNat 32 T0) = (T1 - T0) % 4294967296 := by
  simp only [elapsed, BitVec.toNat_sub, BitVec.toNat_ofNat, Nat.reducePow]
  omega

/-- The counter never shows more time than has passed. -/
theorem elapsed_le {T0 T1 : Nat} (h : T0 ≤ T1) :
    elapsed (BitVec.ofNat 32 T1) (BitVec.ofNat 32 T0) ≤ T1 - T0 := by
  rw [elapsed_ofNat h]
  exact Nat.mod_le _ _

theorem accept_iff (now last : Stamp) : accept now last = true ↔ 200000 ≤ elapsed now last := by
  rw [accept, decide_eq_true_iff]
  rfl

theorem delayPassed_iff (now mark : Stamp) : delayPassed now mark = true ↔ 50000 ≤ elapsed now mark := by
  rw [delayPassed, decide_eq_true_iff]
  rfl

end Sys2Proof.Machine
end

