-- ==== Sys2Proof/Laws/State.lean ====
section
/-! SUPPORT. One lemma per field of the state per named update, so that no later proof unfolds a record update. -/

namespace Sys2Proof.Machine

open Sys2Proof

variable (s : State)

@[simp] theorem State.enterService_eq (l : Line) : s.enterService l = s := rfl

@[simp] theorem State.leaveService_eq (l : Line) : s.leaveService l = s.setPending l false := rfl

@[simp] theorem State.pending_a : s.pending .a = s.irqPendA := rfl

@[simp] theorem State.pending_j : s.pending .j = s.irqPendJ := rfl

@[simp] theorem State.goto_cfg (v : Phase) : (s.goto v).cfg = s.cfg := rfl
@[simp] theorem State.goto_env (v : Phase) : (s.goto v).env = s.env := rfl
@[simp] theorem State.goto_ph (v : Phase) : (s.goto v).ph = v := rfl
@[simp] theorem State.goto_rawX (v : Phase) : (s.goto v).rawX = s.rawX := rfl
@[simp] theorem State.goto_rawY (v : Phase) : (s.goto v).rawY = s.rawY := rfl
@[simp] theorem State.goto_squareX (v : Phase) : (s.goto v).squareX = s.squareX := rfl
@[simp] theorem State.goto_squareY (v : Phase) : (s.goto v).squareY = s.squareY := rfl
@[simp] theorem State.goto_dutyX (v : Phase) : (s.goto v).dutyX = s.dutyX := rfl
@[simp] theorem State.goto_dutyY (v : Phase) : (s.goto v).dutyY = s.dutyY := rfl
@[simp] theorem State.goto_lastA (v : Phase) : (s.goto v).lastA = s.lastA := rfl
@[simp] theorem State.goto_lastJ (v : Phase) : (s.goto v).lastJ = s.lastJ := rfl
@[simp] theorem State.goto_tMark (v : Phase) : (s.goto v).tMark = s.tMark := rfl
@[simp] theorem State.goto_adcSel (v : Phase) : (s.goto v).adcSel = s.adcSel := rfl
@[simp] theorem State.goto_pwmEnabled (v : Phase) : (s.goto v).pwmEnabled = s.pwmEnabled := rfl
@[simp] theorem State.goto_borderThick (v : Phase) : (s.goto v).borderThick = s.borderThick := rfl
@[simp] theorem State.goto_fillVariant (v : Phase) : (s.goto v).fillVariant = s.fillVariant := rfl
@[simp] theorem State.goto_ind (v : Phase) : (s.goto v).ind = s.ind := rfl
@[simp] theorem State.goto_irqPendA (v : Phase) : (s.goto v).irqPendA = s.irqPendA := rfl
@[simp] theorem State.goto_irqPendJ (v : Phase) : (s.goto v).irqPendJ = s.irqPendJ := rfl
@[simp] theorem State.goto_out (v : Phase) : (s.goto v).out = s.out := rfl

@[simp] theorem State.select_cfg (ch : Channel) : (s.select ch).cfg = s.cfg := rfl
@[simp] theorem State.select_env (ch : Channel) : (s.select ch).env = s.env := rfl
@[simp] theorem State.select_ph (ch : Channel) : (s.select ch).ph = s.ph := rfl
@[simp] theorem State.select_rawX (ch : Channel) : (s.select ch).rawX = s.rawX := rfl
@[simp] theorem State.select_rawY (ch : Channel) : (s.select ch).rawY = s.rawY := rfl
@[simp] theorem State.select_squareX (ch : Channel) : (s.select ch).squareX = s.squareX := rfl
@[simp] theorem State.select_squareY (ch : Channel) : (s.select ch).squareY = s.squareY := rfl
@[simp] theorem State.select_dutyX (ch : Channel) : (s.select ch).dutyX = s.dutyX := rfl
@[simp] theorem State.select_dutyY (ch : Channel) : (s.select ch).dutyY = s.dutyY := rfl
@[simp] theorem State.select_lastA (ch : Channel) : (s.select ch).lastA = s.lastA := rfl
@[simp] theorem State.select_lastJ (ch : Channel) : (s.select ch).lastJ = s.lastJ := rfl
@[simp] theorem State.select_tMark (ch : Channel) : (s.select ch).tMark = s.tMark := rfl
@[simp] theorem State.select_adcSel (ch : Channel) : (s.select ch).adcSel = ch := rfl
@[simp] theorem State.select_pwmEnabled (ch : Channel) : (s.select ch).pwmEnabled = s.pwmEnabled := rfl
@[simp] theorem State.select_borderThick (ch : Channel) : (s.select ch).borderThick = s.borderThick := rfl
@[simp] theorem State.select_fillVariant (ch : Channel) : (s.select ch).fillVariant = s.fillVariant := rfl
@[simp] theorem State.select_ind (ch : Channel) : (s.select ch).ind = s.ind := rfl
@[simp] theorem State.select_irqPendA (ch : Channel) : (s.select ch).irqPendA = s.irqPendA := rfl
@[simp] theorem State.select_irqPendJ (ch : Channel) : (s.select ch).irqPendJ = s.irqPendJ := rfl
@[simp] theorem State.select_out (ch : Channel) : (s.select ch).out = s.out := rfl

@[simp] theorem State.emit_cfg (ev : OutEvent) : (s.emit ev).cfg = s.cfg := rfl
@[simp] theorem State.emit_env (ev : OutEvent) : (s.emit ev).env = s.env := rfl
@[simp] theorem State.emit_ph (ev : OutEvent) : (s.emit ev).ph = s.ph := rfl
@[simp] theorem State.emit_rawX (ev : OutEvent) : (s.emit ev).rawX = s.rawX := rfl
@[simp] theorem State.emit_rawY (ev : OutEvent) : (s.emit ev).rawY = s.rawY := rfl
@[simp] theorem State.emit_squareX (ev : OutEvent) : (s.emit ev).squareX = s.squareX := rfl
@[simp] theorem State.emit_squareY (ev : OutEvent) : (s.emit ev).squareY = s.squareY := rfl
@[simp] theorem State.emit_dutyX (ev : OutEvent) : (s.emit ev).dutyX = s.dutyX := rfl
@[simp] theorem State.emit_dutyY (ev : OutEvent) : (s.emit ev).dutyY = s.dutyY := rfl
@[simp] theorem State.emit_lastA (ev : OutEvent) : (s.emit ev).lastA = s.lastA := rfl
@[simp] theorem State.emit_lastJ (ev : OutEvent) : (s.emit ev).lastJ = s.lastJ := rfl
@[simp] theorem State.emit_tMark (ev : OutEvent) : (s.emit ev).tMark = s.tMark := rfl
@[simp] theorem State.emit_adcSel (ev : OutEvent) : (s.emit ev).adcSel = s.adcSel := rfl
@[simp] theorem State.emit_pwmEnabled (ev : OutEvent) : (s.emit ev).pwmEnabled = s.pwmEnabled := rfl
@[simp] theorem State.emit_borderThick (ev : OutEvent) : (s.emit ev).borderThick = s.borderThick := rfl
@[simp] theorem State.emit_fillVariant (ev : OutEvent) : (s.emit ev).fillVariant = s.fillVariant := rfl
@[simp] theorem State.emit_ind (ev : OutEvent) : (s.emit ev).ind = s.ind := rfl
@[simp] theorem State.emit_irqPendA (ev : OutEvent) : (s.emit ev).irqPendA = s.irqPendA := rfl
@[simp] theorem State.emit_irqPendJ (ev : OutEvent) : (s.emit ev).irqPendJ = s.irqPendJ := rfl
@[simp] theorem State.emit_out (ev : OutEvent) : (s.emit ev).out = s.out ++ [ev] := rfl

@[simp] theorem State.setPendingA_cfg (b : Bool) : (s.setPending .a b).cfg = s.cfg := rfl
@[simp] theorem State.setPendingA_env (b : Bool) : (s.setPending .a b).env = s.env := rfl
@[simp] theorem State.setPendingA_ph (b : Bool) : (s.setPending .a b).ph = s.ph := rfl
@[simp] theorem State.setPendingA_rawX (b : Bool) : (s.setPending .a b).rawX = s.rawX := rfl
@[simp] theorem State.setPendingA_rawY (b : Bool) : (s.setPending .a b).rawY = s.rawY := rfl
@[simp] theorem State.setPendingA_squareX (b : Bool) : (s.setPending .a b).squareX = s.squareX := rfl
@[simp] theorem State.setPendingA_squareY (b : Bool) : (s.setPending .a b).squareY = s.squareY := rfl
@[simp] theorem State.setPendingA_dutyX (b : Bool) : (s.setPending .a b).dutyX = s.dutyX := rfl
@[simp] theorem State.setPendingA_dutyY (b : Bool) : (s.setPending .a b).dutyY = s.dutyY := rfl
@[simp] theorem State.setPendingA_lastA (b : Bool) : (s.setPending .a b).lastA = s.lastA := rfl
@[simp] theorem State.setPendingA_lastJ (b : Bool) : (s.setPending .a b).lastJ = s.lastJ := rfl
@[simp] theorem State.setPendingA_tMark (b : Bool) : (s.setPending .a b).tMark = s.tMark := rfl
@[simp] theorem State.setPendingA_adcSel (b : Bool) : (s.setPending .a b).adcSel = s.adcSel := rfl
@[simp] theorem State.setPendingA_pwmEnabled (b : Bool) : (s.setPending .a b).pwmEnabled = s.pwmEnabled := rfl
@[simp] theorem State.setPendingA_borderThick (b : Bool) : (s.setPending .a b).borderThick = s.borderThick := rfl
@[simp] theorem State.setPendingA_fillVariant (b : Bool) : (s.setPending .a b).fillVariant = s.fillVariant := rfl
@[simp] theorem State.setPendingA_ind (b : Bool) : (s.setPending .a b).ind = s.ind := rfl
@[simp] theorem State.setPendingA_irqPendA (b : Bool) : (s.setPending .a b).irqPendA = b := rfl
@[simp] theorem State.setPendingA_irqPendJ (b : Bool) : (s.setPending .a b).irqPendJ = s.irqPendJ := rfl
@[simp] theorem State.setPendingA_out (b : Bool) : (s.setPending .a b).out = s.out := rfl

@[simp] theorem State.setPendingJ_cfg (b : Bool) : (s.setPending .j b).cfg = s.cfg := rfl
@[simp] theorem State.setPendingJ_env (b : Bool) : (s.setPending .j b).env = s.env := rfl
@[simp] theorem State.setPendingJ_ph (b : Bool) : (s.setPending .j b).ph = s.ph := rfl
@[simp] theorem State.setPendingJ_rawX (b : Bool) : (s.setPending .j b).rawX = s.rawX := rfl
@[simp] theorem State.setPendingJ_rawY (b : Bool) : (s.setPending .j b).rawY = s.rawY := rfl
@[simp] theorem State.setPendingJ_squareX (b : Bool) : (s.setPending .j b).squareX = s.squareX := rfl
@[simp] theorem State.setPendingJ_squareY (b : Bool) : (s.setPending .j b).squareY = s.squareY := rfl
@[simp] theorem State.setPendingJ_dutyX (b : Bool) : (s.setPending .j b).dutyX = s.dutyX := rfl
@[simp] theorem State.setPendingJ_dutyY (b : Bool) : (s.setPending .j b).dutyY = s.dutyY := rfl
@[simp] theorem State.setPendingJ_lastA (b : Bool) : (s.setPending .j b).lastA = s.lastA := rfl
@[simp] theorem State.setPendingJ_lastJ (b : Bool) : (s.setPending .j b).lastJ = s.lastJ := rfl
@[simp] theorem State.setPendingJ_tMark (b : Bool) : (s.setPending .j b).tMark = s.tMark := rfl
@[simp] theorem State.setPendingJ_adcSel (b : Bool) : (s.setPending .j b).adcSel = s.adcSel := rfl
@[simp] theorem State.setPendingJ_pwmEnabled (b : Bool) : (s.setPending .j b).pwmEnabled = s.pwmEnabled := rfl
@[simp] theorem State.setPendingJ_borderThick (b : Bool) : (s.setPending .j b).borderThick = s.borderThick := rfl
@[simp] theorem State.setPendingJ_fillVariant (b : Bool) : (s.setPending .j b).fillVariant = s.fillVariant := rfl
@[simp] theorem State.setPendingJ_ind (b : Bool) : (s.setPending .j b).ind = s.ind := rfl
@[simp] theorem State.setPendingJ_irqPendA (b : Bool) : (s.setPending .j b).irqPendA = s.irqPendA := rfl
@[simp] theorem State.setPendingJ_irqPendJ (b : Bool) : (s.setPending .j b).irqPendJ = b := rfl
@[simp] theorem State.setPendingJ_out (b : Bool) : (s.setPending .j b).out = s.out := rfl

@[simp] theorem State.acceptA_cfg : (s.acceptA).cfg = s.cfg := rfl
@[simp] theorem State.acceptA_env : (s.acceptA).env = s.env := rfl
@[simp] theorem State.acceptA_ph : (s.acceptA).ph = s.ph := rfl
@[simp] theorem State.acceptA_rawX : (s.acceptA).rawX = s.rawX := rfl
@[simp] theorem State.acceptA_rawY : (s.acceptA).rawY = s.rawY := rfl
@[simp] theorem State.acceptA_squareX : (s.acceptA).squareX = s.squareX := rfl
@[simp] theorem State.acceptA_squareY : (s.acceptA).squareY = s.squareY := rfl
@[simp] theorem State.acceptA_dutyX : (s.acceptA).dutyX = s.dutyX := rfl
@[simp] theorem State.acceptA_dutyY : (s.acceptA).dutyY = s.dutyY := rfl
@[simp] theorem State.acceptA_lastA : (s.acceptA).lastA = s.now := rfl
@[simp] theorem State.acceptA_lastJ : (s.acceptA).lastJ = s.lastJ := rfl
@[simp] theorem State.acceptA_tMark : (s.acceptA).tMark = s.tMark := rfl
@[simp] theorem State.acceptA_adcSel : (s.acceptA).adcSel = s.adcSel := rfl
@[simp] theorem State.acceptA_pwmEnabled : (s.acceptA).pwmEnabled = !s.pwmEnabled := rfl
@[simp] theorem State.acceptA_borderThick : (s.acceptA).borderThick = s.borderThick := rfl
@[simp] theorem State.acceptA_fillVariant : (s.acceptA).fillVariant = s.fillVariant := rfl
@[simp] theorem State.acceptA_ind : (s.acceptA).ind = s.ind := rfl
@[simp] theorem State.acceptA_irqPendA : (s.acceptA).irqPendA = s.irqPendA := rfl
@[simp] theorem State.acceptA_irqPendJ : (s.acceptA).irqPendJ = s.irqPendJ := rfl
@[simp] theorem State.acceptA_out : (s.acceptA).out = s.out := rfl

@[simp] theorem State.acceptJ_cfg : (s.acceptJ).cfg = s.cfg := rfl
@[simp] theorem State.acceptJ_env : (s.acceptJ).env = s.env := rfl
@[simp] theorem State.acceptJ_ph : (s.acceptJ).ph = s.ph := rfl
@[simp] theorem State.acceptJ_rawX : (s.acceptJ).rawX = s.rawX := rfl
@[simp] theorem State.acceptJ_rawY : (s.acceptJ).rawY = s.rawY := rfl
@[simp] theorem State.acceptJ_squareX : (s.acceptJ).squareX = s.squareX := rfl
@[simp] theorem State.acceptJ_squareY : (s.acceptJ).squareY = s.squareY := rfl
@[simp] theorem State.acceptJ_dutyX : (s.acceptJ).dutyX = s.dutyX := rfl
@[simp] theorem State.acceptJ_dutyY : (s.acceptJ).dutyY = s.dutyY := rfl
@[simp] theorem State.acceptJ_lastA : (s.acceptJ).lastA = s.lastA := rfl
@[simp] theorem State.acceptJ_lastJ : (s.acceptJ).lastJ = s.now := rfl
@[simp] theorem State.acceptJ_tMark : (s.acceptJ).tMark = s.tMark := rfl
@[simp] theorem State.acceptJ_adcSel : (s.acceptJ).adcSel = s.adcSel := rfl
@[simp] theorem State.acceptJ_pwmEnabled : (s.acceptJ).pwmEnabled = s.pwmEnabled := rfl
@[simp] theorem State.acceptJ_borderThick : (s.acceptJ).borderThick = !s.borderThick := rfl
@[simp] theorem State.acceptJ_fillVariant : (s.acceptJ).fillVariant = s.fillVariant := rfl
@[simp] theorem State.acceptJ_ind : (s.acceptJ).ind = !s.ind := rfl
@[simp] theorem State.acceptJ_irqPendA : (s.acceptJ).irqPendA = s.irqPendA := rfl
@[simp] theorem State.acceptJ_irqPendJ : (s.acceptJ).irqPendJ = s.irqPendJ := rfl
@[simp] theorem State.acceptJ_out : (s.acceptJ).out = s.out := rfl

@[simp] theorem State.giveTurn_cfg (t : Turn) : (s.giveTurn t).cfg = s.cfg := rfl
@[simp] theorem State.giveTurn_env (t : Turn) : (s.giveTurn t).env = { s.env with turns := t :: s.env.turns } := rfl
@[simp] theorem State.giveTurn_ph (t : Turn) : (s.giveTurn t).ph = s.ph := rfl
@[simp] theorem State.giveTurn_rawX (t : Turn) : (s.giveTurn t).rawX = s.rawX := rfl
@[simp] theorem State.giveTurn_rawY (t : Turn) : (s.giveTurn t).rawY = s.rawY := rfl
@[simp] theorem State.giveTurn_squareX (t : Turn) : (s.giveTurn t).squareX = s.squareX := rfl
@[simp] theorem State.giveTurn_squareY (t : Turn) : (s.giveTurn t).squareY = s.squareY := rfl
@[simp] theorem State.giveTurn_dutyX (t : Turn) : (s.giveTurn t).dutyX = s.dutyX := rfl
@[simp] theorem State.giveTurn_dutyY (t : Turn) : (s.giveTurn t).dutyY = s.dutyY := rfl
@[simp] theorem State.giveTurn_lastA (t : Turn) : (s.giveTurn t).lastA = s.lastA := rfl
@[simp] theorem State.giveTurn_lastJ (t : Turn) : (s.giveTurn t).lastJ = s.lastJ := rfl
@[simp] theorem State.giveTurn_tMark (t : Turn) : (s.giveTurn t).tMark = s.tMark := rfl
@[simp] theorem State.giveTurn_adcSel (t : Turn) : (s.giveTurn t).adcSel = s.adcSel := rfl
@[simp] theorem State.giveTurn_pwmEnabled (t : Turn) : (s.giveTurn t).pwmEnabled = s.pwmEnabled := rfl
@[simp] theorem State.giveTurn_borderThick (t : Turn) : (s.giveTurn t).borderThick = s.borderThick := rfl
@[simp] theorem State.giveTurn_fillVariant (t : Turn) : (s.giveTurn t).fillVariant = s.fillVariant := rfl
@[simp] theorem State.giveTurn_ind (t : Turn) : (s.giveTurn t).ind = s.ind := rfl
@[simp] theorem State.giveTurn_irqPendA (t : Turn) : (s.giveTurn t).irqPendA = s.irqPendA := rfl
@[simp] theorem State.giveTurn_irqPendJ (t : Turn) : (s.giveTurn t).irqPendJ = s.irqPendJ := rfl
@[simp] theorem State.giveTurn_out (t : Turn) : (s.giveTurn t).out = s.out := rfl

@[simp] theorem State.sample_fst (ch : Channel) : (s.sample ch).1 = (s.env.adcRead ch).1 := rfl

theorem State.sample_snd (ch : Channel) :
    (s.sample ch).2 = { s with adcSel := ch, env := (s.env.adcRead ch).2 } := rfl

theorem State.takeTurn_snd : s.takeTurn.2 = { s with env := s.env.turn.2 } := rfl

@[simp] theorem State.takeTurn_fst : s.takeTurn.1 = s.env.turn.1 := rfl

end Sys2Proof.Machine
end

