-- ==== Sys2Proof/Laws/Ops.lean ====
section
/-! SUPPORT. What each shared operation can do, said once. -/

namespace Sys2Proof.Machine

open Sys2Proof

theorem State.configured_of_wellFormed {s : State} (h : s.cfg.wellFormed = true) (a : Answer) :
    s.configured a = a := by
  simp [State.configured, h]

theorem State.configured_eq_next {s t : State} {a : Answer} :
    s.configured a = .next t ↔ s.cfg.wellFormed = true ∧ a = .next t := by
  unfold State.configured
  split <;> simp_all

/-- A conversion leaves everything of the environment but the answers and the draw counter. -/
theorem Env.adcRead_frame (ch : Channel) (e : Env) :
    (e.adcRead ch).2.time = e.time ∧ (e.adcRead ch).2.turns = e.turns ∧ (e.adcRead ch).2.picks = e.picks := by
  unfold Env.adcRead
  split <;> split <;> simp

@[simp] theorem Env.adcRead_time (ch : Channel) (e : Env) : (e.adcRead ch).2.time = e.time :=
  (Env.adcRead_frame ch e).1

@[simp] theorem Env.adcRead_turns (ch : Channel) (e : Env) : (e.adcRead ch).2.turns = e.turns :=
  (Env.adcRead_frame ch e).2.1

@[simp] theorem Env.adcRead_picks (ch : Channel) (e : Env) : (e.adcRead ch).2.picks = e.picks :=
  (Env.adcRead_frame ch e).2.2

/-- Taking a turn leaves the time, the answers and the picks. -/
theorem Env.turn_frame (e : Env) :
    e.turn.2.time = e.time ∧ e.turn.2.adc0 = e.adc0 ∧ e.turn.2.adc1 = e.adc1 ∧ e.turn.2.picks = e.picks := by
  unfold Env.turn
  split <;> simp

@[simp] theorem Env.turn_time (e : Env) : e.turn.2.time = e.time := (Env.turn_frame e).1

/-- A listed turn is taken off the list. -/
theorem Env.turn_cons {e : Env} {t : Turn} {rest : List Turn} (h : e.turns = t :: rest) :
    e.turn = (t, { e with turns := rest }) := by
  simp [Env.turn, h]

/-- A pick leaves the time, the turns and the answers. -/
theorem Env.pick_frame (e : Env) :
    e.pick.2.time = e.time ∧ e.pick.2.turns = e.turns ∧ e.pick.2.adc0 = e.adc0 ∧ e.pick.2.adc1 = e.adc1 := by
  unfold Env.pick
  split <;> simp

@[simp] theorem Env.pick_time (e : Env) : e.pick.2.time = e.time := (Env.pick_frame e).1

@[simp] theorem Env.pick_turns (e : Env) : e.pick.2.turns = e.turns := (Env.pick_frame e).2.1

/-- A service of line A accepts the edge or changes nothing (R103). -/
theorem State.serveA_cases (s : State) :
    (200000 ≤ elapsed s.now s.lastA ∧ s.serveA = s.acceptA) ∨ (elapsed s.now s.lastA < 200000 ∧ s.serveA = s) := by
  by_cases h : accept s.now s.lastA = true
  · exact .inl ⟨(accept_iff _ _).1 h, if_pos h⟩
  · exact .inr ⟨by rw [accept_iff] at h; omega, if_neg h⟩

/-- A service of line J accepts the edge or changes nothing (R104). -/
theorem State.serveJ_cases (s : State) :
    (200000 ≤ elapsed s.now s.lastJ ∧ s.serveJ = s.acceptJ) ∨ (elapsed s.now s.lastJ < 200000 ∧ s.serveJ = s) := by
  by_cases h : accept s.now s.lastJ = true
  · exact .inl ⟨(accept_iff _ _).1 h, if_pos h⟩
  · exact .inr ⟨by rw [accept_iff] at h; omega, if_neg h⟩

/-- With no latch set the next code is the phase (R120, R121). -/
theorem State.fetch_seq {s : State} (ha : s.irqPendA = false) (hj : s.irqPendJ = false) :
    s.fetch = (.seq s.ph, s) := by
  simp [State.fetch, ha, hj]

/-- With a latch set the next code is that of a line whose latch is set, and fetching it changes at most the
environment's picks and draws (R105, R137). -/
theorem State.fetch_irq {s : State} (h : s.irqPendA = true ∨ s.irqPendJ = true) :
    ∃ l e, s.fetch = (Line.code l, { s with env := e }) ∧ s.pending l = true ∧
      e.time = s.env.time ∧ e.turns = s.env.turns ∧ e.adc0 = s.env.adc0 ∧ e.adc1 = s.env.adc1 := by
  have alone : ∀ l, s.fetch = (Line.code l, s) → s.pending l = true →
      ∃ l e, s.fetch = (Line.code l, { s with env := e }) ∧ s.pending l = true ∧
        e.time = s.env.time ∧ e.turns = s.env.turns ∧ e.adc0 = s.env.adc0 ∧ e.adc1 = s.env.adc1 :=
    fun l hf hl => ⟨l, s.env, hf, hl, rfl, rfl, rfl, rfl⟩
  rcases Bool.eq_false_or_eq_true s.irqPendA with ha | ha <;>
    rcases Bool.eq_false_or_eq_true s.irqPendJ with hj | hj
  rotate_left
  · exact alone .a (by simp [State.fetch, ha, hj]) ha
  · exact alone .j (by simp [State.fetch, ha, hj]) hj
  · simp [ha, hj] at h
  · rcases hq : s.cfg.irqPriority with _ | _ | _
    · exact alone .a (by simp [State.fetch, State.firstLine, ha, hj, hq]) ha
    · exact alone .j (by simp [State.fetch, State.firstLine, ha, hj, hq]) hj
    · obtain ⟨h1, h2, h3, h4⟩ := Env.pick_frame s.env
      refine ⟨s.env.pick.1, s.env.pick.2, ?_, ?_, h1, h2, h3, h4⟩
      · simp [State.fetch, State.firstLine, ha, hj, hq]
      · cases s.env.pick.1 <;> assumption

@[simp] theorem decode_code_a : decode (Line.code .a) = .ok .irqa := rfl

@[simp] theorem decode_code_j : decode (Line.code .j) = .ok .irqj := rfl

/-- Everything a step that answers a next state can have been: an environment event, or the block's next operation. -/
theorem step_cases {s t : State} (h : step s = .next t) :
    s.cfg.wellFormed = true ∧
      ((∃ e, s.env.turn.1 = .env e ∧ t = s.takeTurn.2.onEvent e) ∨
        (∃ i, s.env.turn.1 = .block ∧ decode s.takeTurn.2.fetch.1 = .ok i ∧
          exec i s.takeTurn.2.fetch.2 = .next t)) := by
  obtain ⟨hw, h⟩ := State.configured_eq_next.1 h
  refine ⟨hw, ?_⟩
  rcases ht : s.env.turn.1 with _ | e
  · simp only [State.takeTurn_fst, ht, blockStep] at h
    split at h
    · exact .inr ⟨_, rfl, ‹_›, h⟩
    · cases h
  · simp only [State.takeTurn_fst, ht] at h
    exact .inl ⟨e, rfl, (Host.Outcome.next.inj h).symm⟩

end Sys2Proof.Machine
end

