-- ==== Sys2Proof/Laws/PerInstr.lean ====
section
/-! SUPPORT. Facts about each operation as syntax: its code's format is its agent's, and a sequencer code is none of
the two reserved ones (R60, R61, R64). -/

namespace Sys2Proof.Laws.CodeFitsAgent

open Sys2Proof

/-- The code of an operation lies in the format of its agent. -/
def Statement (i : Instr) : Prop :=
  (∃ b : BitVec 4, encode i = .seq b ∧ i.agent = .seq ∧ b.toNat < 14) ∨
    (∃ b : BitVec 1, encode i = .irq b ∧ i.agent = .disp)

theorem smpx : Statement .smpx := .inl ⟨0, rfl, rfl, by decide⟩
theorem smpy : Statement .smpy := .inl ⟨1, rfl, rfl, by decide⟩
theorem mapx : Statement .mapx := .inl ⟨2, rfl, rfl, by decide⟩
theorem mapy : Statement .mapy := .inl ⟨3, rfl, rfl, by decide⟩
theorem clpx : Statement .clpx := .inl ⟨4, rfl, rfl, by decide⟩
theorem clpy : Statement .clpy := .inl ⟨5, rfl, rfl, by decide⟩
theorem rndr : Statement .rndr := .inl ⟨6, rfl, rfl, by decide⟩
theorem rsmx : Statement .rsmx := .inl ⟨7, rfl, rfl, by decide⟩
theorem rsmy : Statement .rsmy := .inl ⟨8, rfl, rfl, by decide⟩
theorem pwmx : Statement .pwmx := .inl ⟨9, rfl, rfl, by decide⟩
theorem pwmy : Statement .pwmy := .inl ⟨10, rfl, rfl, by decide⟩
theorem diag : Statement .diag := .inl ⟨11, rfl, rfl, by decide⟩
theorem dlys : Statement .dlys := .inl ⟨12, rfl, rfl, by decide⟩
theorem dlyw : Statement .dlyw := .inl ⟨13, rfl, rfl, by decide⟩
theorem irqa : Statement .irqa := .inr ⟨0, rfl, rfl⟩
theorem irqj : Statement .irqj := .inr ⟨1, rfl, rfl⟩

end Sys2Proof.Laws.CodeFitsAgent
end

