-- ==== Sys2Proof/Laws/Run.lean ====
section
/-! SUPPORT. A run of the machine, one step at a time, and of a trace, one line at a time. -/

namespace Sys2Proof.Machine

open Sys2Proof

theorem run_succ (M : Host.Core) (s : M.State) (k : Nat) :
    M.run (k + 1) s =
      match M.step s with
      | .next t => M.run k t
      | .fault r => .fault r
      | .refused r => .refused r := rfl

theorem run_succ_of_step {s t : State} (h : step s = .next t) (k : Nat) :
    Host.Core.run Sys2Proof.core (k + 1) s = Host.Core.run Sys2Proof.core k t := by
  have e : Sys2Proof.core.step s = .next t := h
  have r := run_succ Sys2Proof.core s k
  rw [e] at r
  exact r

/-- A run that answers a next state begins with a step that does. -/
theorem run_succ_cases {s t : State} {k : Nat} (h : Host.Core.run Sys2Proof.core (k + 1) s = .next t) :
    ∃ u, step s = .next u ∧ Host.Core.run Sys2Proof.core k u = .next t := by
  have r := run_succ Sys2Proof.core s k
  rcases e : Sys2Proof.core.step s with u | f | f
  · rw [e] at r
    exact ⟨u, e, r.symm.trans h⟩
  · rw [e] at r
    cases r.symm.trans h
  · rw [e] at r
    cases r.symm.trans h

/-- A trace that runs begins with a legal line. -/
theorem runTrace_cons_iff {s t : State} {l : TraceLine} {ls : List TraceLine} :
    State.runTrace (l :: ls) s = some t ↔ ∃ u, s.traceStep l = some u ∧ State.runTrace ls u = some t := by
  cases h : s.traceStep l <;> simp [State.runTrace, h]

/-- A pseudo-operation runs exactly where it is legal and its lines run. -/
theorem State.runPseudo_iff {s t : State} {p : Pseudo} :
    s.runPseudo p = some t ↔ p.legal s.cfg = true ∧ State.runTrace p.lines s = some t := by
  unfold State.runPseudo
  split <;> simp_all

/-- No line of a tick is an edge event (R67). -/
theorem tick_lines_edge_free (ax ay bx bY : Sample) (t0 t1 : Stamp) :
    (Pseudo.tick ax ay t0 t1).lines.all (!·.isEdge) = true ∧
      (Pseudo.tick2 ax ay bx bY t0 t1).lines.all (!·.isEdge) = true := ⟨rfl, rfl⟩

end Sys2Proof.Machine
end

