-- ==== Sys2Proof/Tests/Slice0.lean ====
section
/-! SUPPORT. Tests: the checks refuse ill-formed terms, written codes decode, one step per operation on the numbers of
spec/95_test_vectors.md, and for each statement with hypotheses a concrete state that meets them. -/

namespace Sys2Proof.Tests

open Sys2Proof Sys2Proof.Machine

/-- An environment with nothing listed, at time `T`. -/
def quiet (T : Nat) : Env := { time := T, turns := [], adc0 := [], adc1 := [], picks := [], draws := 0 }

/-- The reset values under the default configuration, in a quiet environment at time `T`. -/
def base (T : Nat) : State := State.initial Config.default (quiet T)

/-- The same under a configuration of the test's. -/
def baseWith (c : Config) (T : Nat) : State := State.initial c (quiet T)

/-- `base` at a phase. -/
def atPhase (p : Phase) (T : Nat) : State := { base T with ph := p }

/-- `base` with the environment's next turns listed. -/
def turning (ts : List Turn) (T : Nat) : State := { base T with env := { quiet T with turns := ts } }

/-- A field of the next state an operation answers. -/
def after (i : Instr) (s : State) (f : State → Nat) : Option Nat := (answered (exec i s)).map f

/-- A field of the next state a step answers. -/
def afterStep (s : State) (f : State → Nat) : Option Nat := (answered (step s)).map f

/-! ### The checks -/

theorem test_default_wellFormed : Config.default.wellFormed = true := by decide
theorem test_centre_forty_refused : Config.wellFormed { Config.default with centerX := 40 } = false := by decide
theorem test_centre_4055_refused : Config.wellFormed { Config.default with centerY := 4055 } = false := by decide
theorem test_centre_bounds_accepted :
    Config.wellFormed { Config.default with centerX := 41, centerY := 4054 } = true := by decide
theorem test_equal_channels_refused : Config.wellFormed { Config.default with chX := 1 } = false := by decide
theorem test_channel_two_refused : Config.wellFormed { Config.default with chY := 2 } = false := by decide
theorem test_low_screen_refused :
    Config.wellFormed { Config.default with screenH := 13, smaxY := 4 } = false := by decide
theorem test_high_screen_refused :
    Config.wellFormed { Config.default with screenH := 257, smaxY := 248 } = false := by decide
theorem test_wrong_smaxX_refused : Config.wellFormed { Config.default with smaxX := 120 } = false := by decide
theorem test_wrong_smaxY_refused : Config.wellFormed { Config.default with smaxY := 56 } = false := by decide
theorem test_line_without_adc_refused : (TraceLine.op .smpx none none).wellFormed = false := by decide
theorem test_line_with_spare_adc_refused : (TraceLine.op .mapx (some 1) none).wellFormed = false := by decide
theorem test_line_without_now_refused : (TraceLine.op .dlys none none).wellFormed = false := by decide
theorem test_line_with_spare_now_refused : (TraceLine.op .diag none (some 1)).wellFormed = false := by decide
theorem test_ill_formed_config_refused :
    answered (step (baseWith { Config.default with centerX := 40 } 0)) = none := by decide

/-! ### Codes, written out from the tables of R60 and R61 -/

theorem test_decode_smpx : decode (.seq 0b0000#4) = .ok .smpx := rfl
theorem test_decode_smpy : decode (.seq 0b0001#4) = .ok .smpy := rfl
theorem test_decode_mapx : decode (.seq 0b0010#4) = .ok .mapx := rfl
theorem test_decode_mapy : decode (.seq 0b0011#4) = .ok .mapy := rfl
theorem test_decode_clpx : decode (.seq 0b0100#4) = .ok .clpx := rfl
theorem test_decode_clpy : decode (.seq 0b0101#4) = .ok .clpy := rfl
theorem test_decode_rndr : decode (.seq 0b0110#4) = .ok .rndr := rfl
theorem test_decode_rsmx : decode (.seq 0b0111#4) = .ok .rsmx := rfl
theorem test_decode_rsmy : decode (.seq 0b1000#4) = .ok .rsmy := rfl
theorem test_decode_pwmx : decode (.seq 0b1001#4) = .ok .pwmx := rfl
theorem test_decode_pwmy : decode (.seq 0b1010#4) = .ok .pwmy := rfl
theorem test_decode_diag : decode (.seq 0b1011#4) = .ok .diag := rfl
theorem test_decode_dlys : decode (.seq 0b1100#4) = .ok .dlys := rfl
theorem test_decode_dlyw : decode (.seq 0b1101#4) = .ok .dlyw := rfl
theorem test_decode_irqa : decode (.irq 0b0#1) = .ok .irqa := rfl
theorem test_decode_irqj : decode (.irq 0b1#1) = .ok .irqj := rfl
theorem test_decode_reserved_14 : decode (.seq 0b1110#4) = .error .reservedPhase := rfl
theorem test_decode_reserved_15 : decode (.seq 0b1111#4) = .error .reservedPhase := rfl
theorem test_table_word_dlyw : decodeTableWord 8 13 = some .dlyw := by decide
theorem test_table_word_reserved : decodeTableWord 8 14 = none := by decide
theorem test_table_word_irqj : decodeTableWord 1 1 = some .irqj := by decide

/-! ### One step per operation (spec/95_test_vectors.md) -/

/-- Table 2.1. -/
theorem test_smpx_reads_channel_x :
    after .smpx { base 0 with adcSel := 1, env := { quiet 0 with adc0 := [4095], adc1 := [7] } }
      (fun t => t.rawX.toNat + 10000 * t.adcSel.toNat + 20000 * t.ph.toNat) = some (4095 + 20000) := by decide
/-- Table 2.1, CH_X = 1 and CH_Y = 0. -/
theorem test_smpx_swapped_channels :
    after .smpx { baseWith { Config.default with chX := 1, chY := 0 } 0 with
        env := { quiet 0 with adc0 := [9], adc1 := [5] } }
      (fun t => t.rawX.toNat + 10000 * t.adcSel.toNat) = some 10005 := by decide
/-- Table 2.1. -/
theorem test_smpy_reads_channel_y :
    after .smpy { base 0 with rawX := 4095, env := { quiet 0 with adc0 := [1], adc1 := [2180] } }
      (fun t => t.rawY.toNat + 10000 * t.adcSel.toNat + 20000 * t.ph.toNat) = some 52180 := by decide
/-- Table 2.1. -/
theorem test_rsmx_samples_again :
    after .rsmx { atPhase 7 0 with rawX := 3000, env := { quiet 0 with adc0 := [1980] } }
      (fun t => t.rawX.toNat + 10000 * t.ph.toNat) = some 81980 := by decide
/-- Table 2.1. -/
theorem test_rsmy_samples_again :
    after .rsmy { atPhase 8 0 with rawY := 1000, env := { quiet 0 with adc1 := [2180] } }
      (fun t => t.rawY.toNat + 10000 * t.ph.toNat) = some 92180 := by decide
/-- Table 2.2: truncation toward zero (floor division would give 58). -/
theorem test_mapx_rounds_toward_middle : after .mapx { base 0 with rawX := 1938 } (·.squareX.toNat) = some 59 := by
  decide
/-- Table 2.4, INVERT_X. -/
theorem test_mapx_inverted :
    after .mapx { baseWith { Config.default with invertX := true } 0 with rawX := 4095 } (·.squareX.toNat) = some 2 := by
  decide
/-- Table 2.3. -/
theorem test_mapy_low_rail : after .mapy { base 0 with rawY := 0 } (·.squareY.toNat) = some 56 := by decide
/-- Table 2.3. -/
theorem test_mapy_2251 : after .mapy { base 0 with rawY := 2251 } (·.squareY.toNat) = some 28 := by decide
/-- Table 2.4. -/
theorem test_clpx_thin_lower : after .clpx { base 0 with squareX := 0 } (·.squareX.toNat) = some 1 := by decide
/-- Table 2.4. -/
theorem test_clpx_thick_upper :
    after .clpx { base 0 with squareX := 118, borderThick := true } (·.squareX.toNat) = some 117 := by decide
/-- Table 2.3. -/
theorem test_clpy_thin_upper : after .clpy { base 0 with squareY := 56 } (·.squareY.toNat) = some 55 := by decide
/-- Table 2.3. -/
theorem test_clpy_thick_lower :
    after .clpy { base 0 with squareY := 2, borderThick := true } (·.squareY.toNat) = some 3 := by decide
/-- Table 2.10. -/
theorem test_rndr_event :
    (answered (exec .rndr { atPhase 6 0 with squareX := 117, squareY := 3, borderThick := true, fillVariant := true })).map
      (fun t => (t.out, t.ph)) = some ([.render 117 3 true true], 9) := by decide
/-- Table 2.10, RESAMPLE_PWM. -/
theorem test_rndr_resample :
    after .rndr { baseWith { Config.default with resamplePwm := true } 0 with ph := 6 } (·.ph.toNat) = some 7 := by
  decide
/-- Table 2.5: the first sample outside the deadzone that lights the LED. -/
theorem test_pwmx_1980 : after .pwmx { base 0 with rawX := 1980 } (·.dutyX.toNat) = some 30 := by decide
/-- Table 2.5: the enable override. -/
theorem test_pwmx_disabled :
    after .pwmx { base 0 with rawX := 4095, pwmEnabled := false, dutyX := 9 } (·.dutyX.toNat) = some 0 := by decide
/-- Table 2.6. -/
theorem test_pwmy_3000 : after .pwmy { base 0 with rawY := 3000 } (·.dutyY.toNat) = some 27262 := by decide
/-- Table 2.6. -/
theorem test_pwmy_low_rail : after .pwmy { base 0 with rawY := 0 } (·.dutyY.toNat) = some 65535 := by decide
/-- Table 2.10. -/
theorem test_diag_event : (answered (exec .diag (atPhase 11 0))).map (fun t => (t.out, t.ph)) = some ([.diag], 12) := by
  decide
/-- Table 2.10. -/
theorem test_dlys_mark : after .dlys (atPhase 12 1000000) (fun t => t.tMark.toNat + t.ph.toNat) = some 1000013 := by
  decide
/-- Table 2.10: 49999 across the counter's wrap. -/
theorem test_dlyw_stays :
    after .dlyw { atPhase 13 (4294967296 + 32703) with tMark := 4294950000 } (·.ph.toNat) = some 13 := by decide
/-- Table 2.10: 50000 across the counter's wrap. -/
theorem test_dlyw_passes :
    after .dlyw { atPhase 13 (4294967296 + 32704) with tMark := 4294950000 } (·.ph.toNat) = some 0 := by decide
/-- Table 2.9. -/
theorem test_irqa_rejects :
    after .irqa { base 199999 with irqPendA := true } (fun t => t.lastA.toNat + t.pwmEnabled.toNat + t.irqPendA.toNat) =
      some 1 := by decide
/-- Table 2.9. -/
theorem test_irqa_accepts :
    after .irqa { base 200000 with irqPendA := true } (fun t => t.lastA.toNat + t.pwmEnabled.toNat + t.irqPendA.toNat) =
      some 200000 := by decide
/-- Table 2.9. -/
theorem test_irqj_accepts :
    after .irqj { base 250000 with irqPendJ := true }
      (fun t => t.lastJ.toNat + t.borderThick.toNat + 2 * t.ind.toNat + 4 * t.irqPendJ.toNat) = some 250003 := by decide
/-- Program P3: 199999 microseconds across the wrap is rejected. -/
theorem test_irqj_rejects_across_wrap :
    after .irqj { base (4294967296 + 134463) with lastJ := 4294901760, irqPendJ := true } (·.borderThick.toNat) =
      some 0 := by decide

/-! ### The functions off the well-formed configurations (tables 2.7 and 2.8) and the environment's steps -/

theorem test_brightness_guard : brightness 0 40 true = 0 := by decide
theorem test_brightness_smallest_travel : brightness 4095 4054 true = 65535 := by decide
theorem test_accept_wrap : (accept 134464 4294901760, accept 134463 4294901760) = (true, false) := by decide
theorem test_edga_coalesces :
    afterStep { turning [.env .edga] 0 with irqPendA := true } (·.irqPendA.toNat) = some 1 := by decide
theorem test_rst_drops_edge :
    afterStep { turning [.env .rst] 5 with irqPendJ := true, ph := 9, lastA := 7 }
      (fun t => t.irqPendJ.toNat + t.ph.toNat + t.lastA.toNat + 100 * t.env.time) = some 500 := by decide
theorem test_illegal_line_irqa : State.traceStep (base 0) (.op .irqa none (some 5)) = none := by decide
theorem test_illegal_line_smpx :
    State.traceStep { base 0 with irqPendA := true } (.op .smpx (some 1) none) = none := by decide
/-- Program P5: RSMX at phase 9 is illegal. -/
theorem test_illegal_line_rsmx : State.traceStep (atPhase 9 0) (.op .rsmx (some 1) none) = none := by decide
/-- R137: with both latches set, a service out of the order that IRQ_PRIORITY gives is illegal. -/
theorem test_illegal_press_order :
    ({ baseWith { Config.default with irqPriority := .jFirst } 0 with irqPendJ := true } : State).runPseudo
        (.pressA 200000) = none ∧
      ({ baseWith { Config.default with irqPriority := .aFirst } 0 with irqPendA := true } : State).runPseudo
        (.pressJ 200000) = none := by decide
theorem test_pressA : (State.runTrace (pressA 200000) (base 0)).map (·.lastA.toNat) = some 200000 := by decide
/-- R67: 49999 across the counter's wrap is no TICK, 50000 is; nor is a tick under the other RESAMPLE_PWM. -/
theorem test_short_tick_illegal :
    (base 0).runPseudo (.tick 1939 2180 4294950000 32703) = none ∧
      Pseudo.legal Config.default (.tick 1939 2180 4294950000 32704) = true ∧
      Pseudo.legal Config.default (.tick2 1939 2180 1939 2180 0 50000) = false ∧
      Pseudo.legal { Config.default with resamplePwm := true } (.tick 1939 2180 0 50000) = false := by decide
/-- R67: a tick in which an edge event falls is no TICK. -/
theorem test_edge_inside_tick :
    Pseudo.standsFor Config.default (.tick 1 2 0 50000) (tick 1 2 0 50000) = true ∧
      Pseudo.standsFor Config.default (.tick 1 2 0 50000)
        ((tick 1 2 0 50000).take 4 ++ pressA 0 ++ (tick 1 2 0 50000).drop 4) = false := by decide
theorem test_written_run :
    (State.runWritten [.pseudo (.pressJ 250000), .line .edga] (base 0)).map
      (fun t => (t.borderThick, t.irqPendA, t.irqPendJ)) = some (true, true, false) := by decide
theorem test_other_service_order :
    (State.traceStep { base 0 with irqPendA := true, irqPendJ := true } (.op .irqj none (some 300000))).map
      (fun t => (t.irqPendA, t.irqPendJ, t.lastJ.toNat)) = some (true, false, 300000) := by decide
theorem test_little_endian : serialised 4 0x01020304 = [4, 3, 2, 1] := by decide
theorem test_frames : (frameInsets true, frameInsets false) = ([0, 1, 2], [0]) := by decide
theorem test_square_on_second_frame : (squareCovers 1 2 1 9 && onFrame 64 1 1 9) = true := by decide

/-! ### The hypotheses of the statements are met -/

/-- The configuration hypothesis of every statement about one operation, at reset values. -/
theorem witness_SmpxSamplesX : (base 0).cfg.wellFormed = true := by decide
theorem witness_SmpySamplesY : (atPhase 1 0).cfg.wellFormed = true := by decide
theorem witness_RsmxSamplesXAgain : (atPhase 7 0).cfg.wellFormed = true := by decide
theorem witness_RsmySamplesYAgain : (atPhase 8 0).cfg.wellFormed = true := by decide
theorem witness_MapxMapsX : (atPhase 2 0).cfg.wellFormed = true := by decide
theorem witness_MapyMapsY : (atPhase 3 0).cfg.wellFormed = true := by decide
theorem witness_ClpxClampsX : (atPhase 4 0).cfg.wellFormed = true := by decide
theorem witness_ClpyClampsY : (atPhase 5 0).cfg.wellFormed = true := by decide
theorem witness_RndrHandsSceneOver : (atPhase 6 0).cfg.wellFormed = true := by decide
theorem witness_PwmxAppliesDuty : (atPhase 9 0).cfg.wellFormed = true := by decide
theorem witness_PwmyAppliesDuty : (atPhase 10 0).cfg.wellFormed = true := by decide
theorem witness_DiagPulses : (atPhase 11 0).cfg.wellFormed = true := by decide
theorem witness_DlysMarksTime : (atPhase 12 0).cfg.wellFormed = true := by decide
/-- Both outcomes of the test: a difference of 49999 and of 50000. -/
theorem witness_DlywWaits :
    (atPhase 13 49999).cfg.wellFormed = true ∧
      elapsed (atPhase 13 49999).now 0 = 49999 ∧ elapsed (atPhase 13 50000).now 0 = 50000 := by decide
/-- Both verdicts: a difference of 199999 and of 200000. -/
theorem witness_IrqaServesButtonA :
    (base 199999).cfg.wellFormed = true ∧
      elapsed (base 199999).now 0 = 199999 ∧ elapsed (base 200000).now 0 = 200000 := by decide
theorem witness_IrqjServesJoystickButton :
    (base 200000).cfg.wellFormed = true ∧
      elapsed (base 199999).now 0 = 199999 ∧ elapsed (base 200000).now 0 = 200000 := by decide
/-- Each of the four clauses: an answer listed for either channel, and none. -/
theorem witness_AdcAnswersItsChannel :
    (⟨0, [], [5], [6], [], 0⟩ : Env).adc0 = 5 :: [] ∧ (⟨0, [], [5], [6], [], 0⟩ : Env).adc1 = 6 :: [] ∧
      (quiet 0).adc0 = [] ∧ (quiet 0).adc1 = [] := by decide

theorem witness_TdivRoundsTowardZero : (2 : Int) ≠ 0 := by decide
/-- Below, at and above the centre, and at both rails. -/
theorem witness_MapIsScaledOffset :
    (∀ raw ∈ [0, 1938, 1939, 4095], (0 : Int) ≤ raw ∧ raw ≤ 4095) ∧
      (0 : Int) < 1939 ∧ (1939 : Int) < 4095 ∧ (0 : Int) ≤ 119 := by decide
theorem witness_MapRangeAndCentre :
    (∀ raw ∈ [0, 1939, 4095], (0 : Int) ≤ raw ∧ raw ≤ 4095) ∧
      (0 : Int) < 1 ∧ (1 : Int) < 4095 ∧ (0 : Int) ≤ 0 := by decide
theorem witness_MapRails : (0 : Int) < 4094 ∧ (4094 : Int) < 4095 ∧ (0 : Int) ≤ 118 := by decide
theorem witness_MapMonotone :
    (0 : Int) ≤ 1938 ∧ (1938 : Int) ≤ 1940 ∧ (1940 : Int) ≤ 4095 ∧ (0 : Int) < 1939 ∧ (1939 : Int) < 4095 ∧
      (0 : Int) ≤ 119 := by decide
/-- Both sides of both ends of the band (table 2.2). -/
theorem witness_MapMiddleBand :
    (∀ raw ∈ [1906, 1907, 1975, 1976], (0 : Int) ≤ raw ∧ raw ≤ 4095) ∧
      coordMap 1907 1939 119 = 59 ∧ coordMap 1976 1939 119 = 60 := by decide
/-- Each clause at its boundary: 39 and -39; 40 and -40 at the guard; 40 and -40 off the guard. -/
theorem witness_BrightnessFormula :
    (∀ p ∈ [(1978, 1939), (1900, 1939), (4095, 4055), (0, 40), (1979, 1939), (1899, 1939)],
      (0 : Int) ≤ p.1 ∧ p.1 ≤ 4095 ∧ (0 : Int) ≤ p.2 ∧ p.2 ≤ 4095) ∧
    (-40 < (1978 : Int) - 1939 ∧ (1978 : Int) - 1939 < 40) ∧ (-40 < (1900 : Int) - 1939 ∧ (1900 : Int) - 1939 < 40) ∧
    (40 ≤ (4095 : Int) - 4055 ∧ (4095 : Int) - 4055 = 40) ∧ ((0 : Int) - 40 ≤ -40) ∧
    (40 ≤ (1979 : Int) - 1939 ∧ (4095 : Int) - 1939 ≠ 40) ∧ ((1899 : Int) - 1939 ≤ -40 ∧ (1939 : Int) ≠ 40) := by
  decide
/-- At the smallest well-formed centre and at the largest, both rails. -/
theorem witness_BrightnessRange :
    (0 : Int) ≤ 0 ∧ (0 : Int) ≤ 4095 ∧ (40 : Int) < 41 ∧ (40 : Int) < 4095 - 41 ∧ (40 : Int) < 4054 ∧
      (40 : Int) < 4095 - 4054 ∧ brightness 0 41 true = 65535 ∧ brightness 4095 4054 true = 65535 := by decide
/-- Either side of the centre. -/
theorem witness_BrightnessMonotone :
    ((0 : Int) ≤ 1939 ∧ (1939 : Int) ≤ 1980 ∧ (1980 : Int) ≤ 4095) ∧
      ((0 : Int) ≤ 1898 ∧ (1898 : Int) ≤ 1939 ∧ (1939 : Int) ≤ 4095) ∧
      (40 : Int) < 1939 ∧ (40 : Int) < 4095 - 1939 := by decide
/-- Two true times either side of a wrap of the counter, and the largest difference below one wrap. -/
theorem witness_AcceptComparesTrueTime :
    4294901760 ≤ 4295101760 ∧ 4295101760 - 4294901760 < 4294967296 ∧ 0 ≤ 4294967295 ∧
      4294967295 - 0 < 4294967296 := by decide
theorem witness_AcceptAliasesAfterWraps : 199999 < 200000 := by decide

theorem witness_OperationsWriteOnlyTheirRegisters :
    exec .diag (atPhase 11 0) = .next { atPhase 11 0 with out := [.diag], ph := 12 } := rfl
/-- Two states that differ in a register DIAG does not read. -/
theorem witness_OperationsReadOnlyTheirRegisters :
    (atPhase 11 0).cfg = ({ atPhase 11 0 with rawX := 7 } : State).cfg ∧
      (atPhase 11 0).env = ({ atPhase 11 0 with rawX := 7 } : State).env ∧
      (∀ r ∈ readsOf .diag, (atPhase 11 0).regVal r = ({ atPhase 11 0 with rawX := 7 } : State).regVal r) ∧
      exec .diag (atPhase 11 0) = .next { atPhase 11 0 with out := [.diag], ph := 12 } :=
  ⟨rfl, rfl, by decide, rfl⟩
/-- An operation of either agent. -/
theorem witness_ContextsWriteApart :
    (exec .diag (atPhase 11 0) = .next { atPhase 11 0 with out := [.diag], ph := 12 } ∧ Instr.diag.agent = .seq) ∧
      (exec .irqa { base 0 with irqPendA := true } = .next (base 0) ∧ Instr.irqa.agent = .disp) :=
  ⟨⟨rfl, rfl⟩, ⟨rfl, rfl⟩⟩
theorem witness_ServicesCommute :
    exec .irqa { base 0 with irqPendA := true, irqPendJ := true } = .next { base 0 with irqPendJ := true } ∧
      exec .irqj { base 0 with irqPendJ := true } = .next (base 0) := ⟨rfl, rfl⟩

theorem witness_StepRunsDecodedOperation :
    (turning [.block] 0).cfg.wellFormed = true ∧ (turning [.block] 0).takeTurn.1 = .block ∧
      decode (turning [.block] 0).takeTurn.2.fetch.1 = .ok .smpx := ⟨by decide, rfl, rfl⟩
theorem witness_PlacedWordRunsNext : (base 0).cfg.wellFormed = true ∧ decodeTableWord 8 11 = some .diag := by decide
/-- Each line alone, and both. -/
theorem witness_SetLatchHoldsSequencer :
    (turning [.block] 0).cfg.wellFormed = true ∧ (turning [.block] 0).env.turns = .block :: [] ∧
      ({ turning [.block] 0 with irqPendA := true } : State).irqPendA = true ∧
      ({ turning [.block] 0 with irqPendJ := true } : State).irqPendJ = true := by decide
/-- Each priority, and either pick under ANY. -/
theorem witness_PriorityDecidesLine :
    ∀ c ∈ [{ Config.default with irqPriority := .aFirst }, { Config.default with irqPriority := .jFirst }, Config.default],
      ∀ l ∈ [Line.a, Line.j],
        (answered (step { State.initial c { quiet 0 with turns := [.block], picks := [l] } with
          irqPendA := true, irqPendJ := true })).isSome = true := by decide
theorem witness_EdgeEventsSetLatches :
    (turning [.env .edga] 0).cfg.wellFormed = true ∧ (turning [.env .edga] 0).env.turns = .env .edga :: [] ∧
      ({ turning [.env .edga] 0 with irqPendA := true } : State).irqPendA = true ∧
      (turning [.env .edgj] 0).env.turns = .env .edgj :: [] ∧
      ({ turning [.env .edgj] 0 with irqPendJ := true } : State).irqPendJ = true := by decide
theorem witness_TimeEventAdvancesCounter :
    (turning [.env (.time 3)] 4294967295).cfg.wellFormed = true ∧
      (turning [.env (.time 3)] 4294967295).env.turns = .env (.time 3) :: [] := by decide
theorem witness_ResetEventRestores :
    (turning [.env .rst] 0).cfg.wellFormed = true ∧ (turning [.env .rst] 0).env.turns = .env .rst :: [] := by decide
theorem witness_IllFormedConfigurationRefused :
    (baseWith { Config.default with chY := 0 } 0).cfg.wellFormed = false := by decide
/-- Both reserved phases. -/
theorem witness_ReservedPhaseIsStuck :
    ∀ p ∈ [(14 : Phase), 15], ({ turning [.block] 0 with ph := p } : State).cfg.wellFormed = true ∧
      ({ turning [.block] 0 with ph := p } : State).env.turns = .block :: [] ∧ 14 ≤ p.toNat := by decide
/-- The first phase, RNDR, and both ends of what the third clause speaks of. -/
theorem witness_PhaseSequence :
    ∀ p ∈ [(0 : Phase), 6, 12, 13], ({ turning [.block] 0 with ph := p } : State).cfg.wellFormed = true ∧
      ({ turning [.block] 0 with ph := p } : State).env.turns = .block :: [] ∧
      ({ turning [.block] 0 with ph := p } : State).irqPendA = false ∧
      ({ turning [.block] 0 with ph := p } : State).irqPendJ = false ∧ p.toNat < 14 := by decide
/-- Each clause: a latch set; RSMX at phase 9 (program P5); a latch clear; both latches under either priority. -/
theorem witness_DisabledStepsAreIllegalLines :
    (Instr.smpx.agent = .seq ∧ ({ base 0 with irqPendJ := true } : State).irqPendJ = true) ∧
      (Instr.rsmx.agent = .seq ∧ encode .rsmx ≠ .seq (atPhase 9 0).ph) ∧
      ((base 0).irqPendA = false ∧ (base 0).irqPendJ = false) ∧
      ∀ p ∈ [IrqPriority.jFirst, .aFirst],
        (let s : State := { baseWith { Config.default with irqPriority := p } 0 with irqPendA := true, irqPendJ := true }
         s.irqPendA = true ∧ s.irqPendJ = true ∧ s.cfg.irqPriority = p) := by decide

/-- A state in the middle of a tick, with the block to move. -/
def midTick : State := { turning [.block] 0 with ph := 11, squareX := 1, squareY := 55, out := [.render 1 55 false false] }

theorem witness_SceneInvKept :
    SceneInv midTick ∧ step midTick =
      .next { midTick with env := quiet 0, ph := 12, out := [.render 1 55 false false, .diag] } := by
  refine ⟨⟨by decide, by decide, by decide, by decide, by decide, by decide, by decide, rfl, rfl, ?_⟩, rfl⟩
  intro x y a b h
  simp only [midTick, List.mem_singleton, OutEvent.render.injEq] at h
  obtain ⟨rfl, rfl, -, -⟩ := h
  decide
theorem witness_PulseInvKept :
    PulseInv midTick ∧ step midTick =
      .next { midTick with env := quiet 0, ph := 12, out := [.render 1 55 false false, .diag] } :=
  ⟨⟨by decide, by decide, by decide⟩, rfl⟩
theorem witness_RunsNeverStop : (atPhase 13 0).cfg.wellFormed = true ∧ (atPhase 13 0).ph.toNat < 14 := by decide

/-- In phase 13 with 50000 microseconds passed and the block to move. -/
def delayOver : State := { turning [.block] 50000 with ph := 13 }

theorem witness_DelayIsNeverShort :
    delayOver.cfg.wellFormed = true ∧ delayOver.ph = 13 ∧ delayOver.tMark = BitVec.ofNat 32 0 ∧
      0 ≤ delayOver.env.time ∧ 1 ≤ delayOver.env.turns.length ∧ Turn.env .rst ∉ delayOver.env.turns ∧
      Host.Core.run Sys2Proof.core 1 delayOver = .next { delayOver with env := quiet 50000, ph := 0 } ∧
      ({ delayOver with env := quiet 50000, ph := 0 } : State).ph ≠ 13 :=
  ⟨by decide, rfl, rfl, by decide, by decide, by decide, rfl, by decide⟩

/-- At DLYS, with the turns and answers that take the block to its next RNDR. -/
def toNextRender : State :=
  { atPhase 12 0 with
    env := { quiet 0 with
      turns := [.block, .env (.time 50000), .block, .block, .block, .block, .block, .block, .block, .block]
      adc0 := [1939]
      adc1 := [2180] } }

theorem witness_RendersAreSpaced :
    toNextRender.cfg.wellFormed = true ∧ 7 ≤ toNextRender.ph.toNat ∧ toNextRender.ph.toNat ≤ 12 ∧
      10 ≤ toNextRender.env.turns.length ∧ Turn.env .rst ∉ toNextRender.env.turns ∧
      ∃ t, Host.Core.run Sys2Proof.core 10 toNextRender = .next t ∧
        toNextRender.outCount isRenderStrobe < t.outCount isRenderStrobe :=
  ⟨by decide, by decide, by decide, by decide, by decide, _, rfl, by decide⟩

theorem witness_ButtonAIsDebounced :
    (turning [.env (.time 199999)] 0).cfg.wellFormed = true ∧
      (turning [.env (.time 199999)] 0).lastA = BitVec.ofNat 32 0 ∧
      0 ≤ (turning [.env (.time 199999)] 0).env.time ∧ 1 ≤ (turning [.env (.time 199999)] 0).env.turns.length ∧
      Turn.env .rst ∉ (turning [.env (.time 199999)] 0).env.turns ∧
      Host.Core.run Sys2Proof.core 1 (turning [.env (.time 199999)] 0) = .next (base 199999) ∧
      (base 199999).env.time < 0 + 200000 :=
  ⟨by decide, rfl, by decide, by decide, by decide, rfl, by decide⟩
theorem witness_JoystickButtonIsDebounced :
    (turning [.env .edgj] 0).cfg.wellFormed = true ∧ (turning [.env .edgj] 0).lastJ = BitVec.ofNat 32 0 ∧
      0 ≤ (turning [.env .edgj] 0).env.time ∧ 1 ≤ (turning [.env .edgj] 0).env.turns.length ∧
      Turn.env .rst ∉ (turning [.env .edgj] 0).env.turns ∧
      Host.Core.run Sys2Proof.core 1 (turning [.env .edgj] 0) = .next { base 0 with irqPendJ := true } ∧
      ({ base 0 with irqPendJ := true } : State).env.time < 0 + 200000 :=
  ⟨by decide, rfl, by decide, by decide, by decide, rfl, by decide⟩
theorem witness_TickComputesScene :
    (base 0).cfg.wellFormed = true ∧ (base 0).cfg.resamplePwm = false ∧ (base 0).tickBoundary = true ∧
      50000 ≤ ((1050000 : Stamp) - 1000000).toNat := by decide
/-- The two readings of program P5, across the counter's wrap. -/
theorem witness_TickWithResampling :
    (baseWith { Config.default with resamplePwm := true } 0).cfg.wellFormed = true ∧
      (baseWith { Config.default with resamplePwm := true } 0).cfg.resamplePwm = true ∧
      (baseWith { Config.default with resamplePwm := true } 0).tickBoundary = true ∧
      50000 ≤ ((32704 : Stamp) - 4294950000).toNat := by decide

/-- The third clause at its boundary, the conditions of TICK and of TICK2, and those of the presses with the other
latch clear and, under ANY, set. -/
theorem witness_PseudoOperationsAreLegalExactly :
    (((32703 : Stamp) - 4294950000).toNat < 50000 ∧ 50000 ≤ ((32704 : Stamp) - 4294950000).toNat) ∧
      ((base 0).cfg.wellFormed = true ∧ (base 0).cfg.resamplePwm = false ∧ (base 0).tickBoundary = true) ∧
      (let r := baseWith { Config.default with resamplePwm := true } 0
       r.cfg.wellFormed = true ∧ r.cfg.resamplePwm = true ∧ r.tickBoundary = true) ∧
      ((base 0).irqPendA = false ∧ (base 0).irqPendJ = false) ∧
      (({ base 0 with irqPendJ := true } : State).runPseudo (.pressA 200000)).isSome = true ∧
      (({ base 0 with irqPendA := true } : State).runPseudo (.pressJ 200000)).isSome = true := by decide

/-- A row's word, placed at reset, is what the next step runs, whatever the environment's free values are. -/
theorem test_placed_word_runs :
    (answered (step (State.reset.withFetchWord 8 11))).map (fun t => (t.out, t.ph)) = some ([.diag], 12) := by decide

end Sys2Proof.Tests
end

section
/-! PROOFS. The scope rules (spec/00_scope.md): the well-formed configurations and the refusal of every other (R5),
the rounded quotient (R7), the block's step as the operation its next code names (R9, R120). -/

namespace Sys2Proof.Config

/-! ### The checks of R5 as propositions over numerals -/

theorem centreOk_iff (center : Nat) : centreOk center = true ↔ 40 < center ∧ 40 < 4095 - center := by
  rw [centreOk, Bool.and_eq_true, decide_eq_true_iff, decide_eq_true_iff]
  rfl

theorem channelsOk_iff (c : Config) :
    c.channelsOk = true ↔ c.chX ≠ c.chY ∧ (c.chX = 0 ∨ c.chX = 1) ∧ (c.chY = 0 ∨ c.chY = 1) := by
  simp only [channelsOk, Bool.and_eq_true, decide_eq_true_eq]
  omega

theorem screenOk_iff (c : Config) : c.screenOk = true ↔ 14 ≤ c.screenH ∧ c.screenH ≤ 256 := by
  simp [screenOk]

theorem smaxOk_iff (c : Config) :
    c.smaxOk = true ↔ c.smaxX = 128 - 8 - 1 ∧ c.smaxY = c.screenH - 8 - 1 := by
  rw [smaxOk, Bool.and_eq_true, decide_eq_true_iff, decide_eq_true_iff]
  rfl

/-- R5 whole: the conjunction of its four groups of conditions. -/
theorem wellFormed_iff (c : Config) :
    c.wellFormed = true ↔
      40 < c.centerX ∧ 40 < 4095 - c.centerX ∧ 40 < c.centerY ∧ 40 < 4095 - c.centerY ∧
        c.chX ≠ c.chY ∧ (c.chX = 0 ∨ c.chX = 1) ∧ (c.chY = 0 ∨ c.chY = 1) ∧
        14 ≤ c.screenH ∧ c.screenH ≤ 256 ∧ c.smaxX = 128 - 8 - 1 ∧ c.smaxY = c.screenH - 8 - 1 := by
  simp only [wellFormed, Bool.and_eq_true, centreOk_iff, channelsOk_iff, screenOk_iff, smaxOk_iff, and_assoc]

end Sys2Proof.Config

namespace Sys2Proof.Machine

open Sys2Proof

/-! ### The refusal of an ill-formed configuration -/

theorem State.configured_of_illFormed {s : State} (h : s.cfg.wellFormed = false) (a : Answer) :
    s.configured a = .refused .illFormedConfig := by
  simp [State.configured, h]

/-- Every operation's meaning stands behind the configuration check. -/
theorem exec_of_illFormed {s : State} (h : s.cfg.wellFormed = false) (i : Instr) :
    exec i s = .refused .illFormedConfig := by
  cases i <;> exact State.configured_of_illFormed h _

theorem step_of_illFormed {s : State} (h : s.cfg.wellFormed = false) :
    step s = .refused .illFormedConfig :=
  State.configured_of_illFormed h _

/-! ### The block's step -/

theorem blockStep_of_decode {s : State} {i : Instr} (h : decode s.fetch.1 = .ok i) :
    blockStep s = exec i s.fetch.2 := by
  simp only [blockStep, h]

theorem step_of_block_turn {s : State} (hw : s.cfg.wellFormed = true) (ht : s.takeTurn.1 = .block) :
    step s = blockStep s.takeTurn.2 := by
  rw [step, State.configured_of_wellFormed hw, ht]

/-! ### The rounded quotient -/

/-- The sign of the quotient is that of the operands, except that a quotient of 0 has none. -/
theorem tdiv_eq_sign_mul_natAbs (a b : Int) :
    tdiv a b = Int.sign a * Int.sign b * ((a.natAbs / b.natAbs : Nat) : Int) := by
  have signed : tdiv a b = Int.sign (a.tdiv b) * ((a.natAbs / b.natAbs : Nat) : Int) :=
    calc tdiv a b = Int.sign (a.tdiv b) * ((a.tdiv b).natAbs : Int) := (Int.sign_mul_natAbs _).symm
      _ = Int.sign (a.tdiv b) * ((a.natAbs / b.natAbs : Nat) : Int) := by rw [Int.natAbs_tdiv]; rfl
  rw [signed, Int.sign_tdiv]
  split
  case isTrue small => simp [Nat.div_eq_of_lt small]
  case isFalse => rfl

/-! ### The statements -/

/-- Settles O45: R5's conditions are the check's own, and both `step` and each operation start with the check. -/
theorem illFormedConfigurationRefused : Obligations.IllFormedConfigurationRefused :=
  ⟨Config.wellFormed_iff, fun _ h => ⟨step_of_illFormed h, exec_of_illFormed h⟩⟩

/-- Settles O4, from the sign and the magnitude of the quotient. -/
theorem tdivRoundsTowardZero : Obligations.TdivRoundsTowardZero :=
  fun a b _ => tdiv_eq_sign_mul_natAbs a b

/-- Settles O37: the turn selects the block's step, and the decoded code the operation. -/
theorem stepRunsDecodedOperation : Obligations.StepRunsDecodedOperation := by
  intro s i hw ht hd
  rw [step_of_block_turn hw ht, blockStep_of_decode hd]

end Sys2Proof.Machine
end

section
/-! PROOFS. The state's families (spec/10_state.md): the frame of every operation and what its results depend on
(R10, the summary table), the two contexts that write apart (R22, R141), the packed views (R23). -/

namespace Sys2Proof.Machine

open Sys2Proof

/-! ### The effect of an operation -/

/-- An X sample taken into `raw_x` (R71, R73). -/
def State.takeX (s : State) : State := { (s.sample s.chanX).2 with rawX := (s.sample s.chanX).1 }

/-- A Y sample taken into `raw_y` (R72, R74). -/
def State.takeY (s : State) : State := { (s.sample s.chanY).2 with rawY := (s.sample s.chanY).1 }

/-- The state an operation leaves, the configuration check apart; `exec_eq_configured_effect` ties it to `exec`. -/
def effect (i : Instr) (s : State) : State :=
  match i with
  | .smpx => s.takeX.goto 1
  | .smpy => s.takeY.goto 2
  | .mapx => State.goto 3 { s with squareX := BitVec.ofInt 8 s.mappedX }
  | .mapy => State.goto 4 { s with squareY := BitVec.ofInt 8 s.mappedY }
  | .clpx => State.goto 5 { s with squareX := BitVec.ofInt 8 s.clampedX }
  | .clpy => State.goto 6 { s with squareY := BitVec.ofInt 8 s.clampedY }
  | .rndr => (s.emit (.render s.squareX s.squareY s.borderThick s.fillVariant)).goto s.afterRender
  | .rsmx => s.takeX.goto 8
  | .rsmy => s.takeY.goto 9
  | .pwmx => State.goto 10 { s with dutyX := BitVec.ofInt 16 (brightness s.rawX.toNat s.cfg.centerX s.pwmEnabled) }
  | .pwmy => State.goto 11 { s with dutyY := BitVec.ofInt 16 (brightness s.rawY.toNat s.cfg.centerY s.pwmEnabled) }
  | .diag => (s.emit .diag).goto 12
  | .dlys => State.goto 13 { s with tMark := s.now }
  | .dlyw => s.goto (if delayPassed s.now s.tMark then 0 else 13)
  | .irqa => s.serveA.setPending .a false
  | .irqj => s.serveJ.setPending .j false

theorem exec_eq_configured_effect (i : Instr) (s : State) : exec i s = s.configured (.next (effect i s)) := by
  cases i <;> rfl

/-- An operation answers a next state exactly in a well-formed configuration, and it is the operation's effect. -/
theorem exec_eq_next_iff {i : Instr} {s t : State} :
    exec i s = .next t ↔ s.cfg.wellFormed = true ∧ effect i s = t := by
  rw [exec_eq_configured_effect, State.configured_eq_next, Host.Outcome.next.injEq]

/-! ### What a service leaves, accepted or not -/

section Services

variable (s : State)

@[simp] theorem State.serveA_cfg : s.serveA.cfg = s.cfg := by
  rcases s.serveA_cases with ⟨-, h⟩ | ⟨-, h⟩ <;> simp [h]

@[simp] theorem State.serveJ_cfg : s.serveJ.cfg = s.cfg := by
  rcases s.serveJ_cases with ⟨-, h⟩ | ⟨-, h⟩ <;> simp [h]

@[simp] theorem State.serveA_env : s.serveA.env = s.env := by
  rcases s.serveA_cases with ⟨-, h⟩ | ⟨-, h⟩ <;> simp [h]

@[simp] theorem State.serveJ_env : s.serveJ.env = s.env := by
  rcases s.serveJ_cases with ⟨-, h⟩ | ⟨-, h⟩ <;> simp [h]

@[simp] theorem State.serveA_out : s.serveA.out = s.out := by
  rcases s.serveA_cases with ⟨-, h⟩ | ⟨-, h⟩ <;> simp [h]

@[simp] theorem State.serveJ_out : s.serveJ.out = s.out := by
  rcases s.serveJ_cases with ⟨-, h⟩ | ⟨-, h⟩ <;> simp [h]

theorem State.serveA_lastA : s.serveA.lastA = if accept s.now s.lastA then s.now else s.lastA :=
  apply_ite State.lastA _ _ _

theorem State.serveA_pwmEnabled :
    s.serveA.pwmEnabled = if accept s.now s.lastA then !s.pwmEnabled else s.pwmEnabled :=
  apply_ite State.pwmEnabled _ _ _

theorem State.serveJ_lastJ : s.serveJ.lastJ = if accept s.now s.lastJ then s.now else s.lastJ :=
  apply_ite State.lastJ _ _ _

theorem State.serveJ_borderThick :
    s.serveJ.borderThick = if accept s.now s.lastJ then !s.borderThick else s.borderThick :=
  apply_ite State.borderThick _ _ _

theorem State.serveJ_ind : s.serveJ.ind = if accept s.now s.lastJ then !s.ind else s.ind :=
  apply_ite State.ind _ _ _

end Services

/-! ### Reading a register by name

After an update a register other than the written ones reads as before: register by register, by computation where it is
another one and by contradiction where it is written. -/

theorem bool_toNat_inj {b c : Bool} : b.toNat = c.toNat ↔ b = c := by
  cases b <;> cases c <;> decide

section RegVal

variable {s : State} {r : Reg}

theorem State.regVal_goto (v : Phase) (h : r ≠ .ph) : (s.goto v).regVal r = s.regVal r := by
  cases r <;> trivial

theorem State.regVal_emit (ev : OutEvent) : (s.emit ev).regVal r = s.regVal r := by
  cases r <;> rfl

theorem State.regVal_takeX (hsel : r ≠ .adcSel) (hraw : r ≠ .rawX) : s.takeX.regVal r = s.regVal r := by
  cases r <;> trivial

theorem State.regVal_takeY (hsel : r ≠ .adcSel) (hraw : r ≠ .rawY) : s.takeY.regVal r = s.regVal r := by
  cases r <;> trivial

theorem State.regVal_with_squareX (v : Coord) (h : r ≠ .squareX) :
    ({ s with squareX := v } : State).regVal r = s.regVal r := by
  cases r <;> trivial

theorem State.regVal_with_squareY (v : Coord) (h : r ≠ .squareY) :
    ({ s with squareY := v } : State).regVal r = s.regVal r := by
  cases r <;> trivial

theorem State.regVal_with_dutyX (v : Duty) (h : r ≠ .dutyX) :
    ({ s with dutyX := v } : State).regVal r = s.regVal r := by
  cases r <;> trivial

theorem State.regVal_with_dutyY (v : Duty) (h : r ≠ .dutyY) :
    ({ s with dutyY := v } : State).regVal r = s.regVal r := by
  cases r <;> trivial

theorem State.regVal_with_tMark (v : Stamp) (h : r ≠ .tMark) :
    ({ s with tMark := v } : State).regVal r = s.regVal r := by
  cases r <;> trivial

theorem State.regVal_setPending_a (b : Bool) (h : r ≠ .irqPendA) :
    (s.setPending .a b).regVal r = s.regVal r := by
  cases r <;> trivial

theorem State.regVal_setPending_j (b : Bool) (h : r ≠ .irqPendJ) :
    (s.setPending .j b).regVal r = s.regVal r := by
  cases r <;> trivial

theorem State.regVal_acceptA (hlast : r ≠ .lastA) (hpwm : r ≠ .pwmEnabled) :
    s.acceptA.regVal r = s.regVal r := by
  cases r <;> trivial

theorem State.regVal_acceptJ (hlast : r ≠ .lastJ) (hthick : r ≠ .borderThick) (hind : r ≠ .ind) :
    s.acceptJ.regVal r = s.regVal r := by
  cases r <;> trivial

theorem State.regVal_serveA (hlast : r ≠ .lastA) (hpwm : r ≠ .pwmEnabled) :
    s.serveA.regVal r = s.regVal r := by
  rcases s.serveA_cases with ⟨-, h⟩ | ⟨-, h⟩ <;> rw [h]
  exact State.regVal_acceptA hlast hpwm

theorem State.regVal_serveJ (hlast : r ≠ .lastJ) (hthick : r ≠ .borderThick) (hind : r ≠ .ind) :
    s.serveJ.regVal r = s.regVal r := by
  rcases s.serveJ_cases with ⟨-, h⟩ | ⟨-, h⟩ <;> rw [h]
  exact State.regVal_acceptJ hlast hthick hind

end RegVal

/-! ### The frame of every operation -/

theorem effect_cfg (i : Instr) (s : State) : (effect i s).cfg = s.cfg := by
  cases i with
  | irqa => exact s.serveA_cfg
  | irqj => exact s.serveJ_cfg
  | _ => rfl

/-- Only an operation that calls `AdcRead()` changes the environment (R65, R75), by one conversion of its channel. -/
theorem effect_env (i : Instr) (s : State) :
    (effect i s).env = if i.takesAdc then (s.env.adcRead (s.sampledBy i)).2 else s.env := by
  cases i with
  | irqa => exact s.serveA_env
  | irqj => exact s.serveJ_env
  | _ => rfl

/-- The events an operation emits: RNDR its scene (R115), DIAG its strobe (R128). -/
def State.emitted (s : State) : Instr → List OutEvent
  | .rndr => [.render s.squareX s.squareY s.borderThick s.fillVariant]
  | .diag => [.diag]
  | _ => []

theorem effect_out (i : Instr) (s : State) : (effect i s).out = s.out ++ s.emitted i := by
  cases i with
  | rndr | diag => rfl
  | irqa => exact s.serveA_out.trans (List.append_nil _).symm
  | irqj => exact s.serveJ_out.trans (List.append_nil _).symm
  | _ => exact (List.append_nil _).symm

/-- An operation changes no register outside its "written by" list. -/
theorem effect_regVal_of_notMem {i : Instr} {r : Reg} (s : State) (hr : r ∉ writesOf i) :
    (effect i s).regVal r = s.regVal r := by
  cases i <;> simp only [writesOf, List.mem_cons, List.not_mem_nil, or_false, not_or] at hr
  case smpx | rsmx =>
    obtain ⟨hsel, hraw, hph⟩ := hr
    exact (State.regVal_goto _ hph).trans (State.regVal_takeX hsel hraw)
  case smpy | rsmy =>
    obtain ⟨hsel, hraw, hph⟩ := hr
    exact (State.regVal_goto _ hph).trans (State.regVal_takeY hsel hraw)
  case mapx | clpx => exact (State.regVal_goto _ hr.2).trans (State.regVal_with_squareX _ hr.1)
  case mapy | clpy => exact (State.regVal_goto _ hr.2).trans (State.regVal_with_squareY _ hr.1)
  case rndr | diag => exact (State.regVal_goto _ hr).trans (State.regVal_emit _)
  case pwmx => exact (State.regVal_goto _ hr.2).trans (State.regVal_with_dutyX _ hr.1)
  case pwmy => exact (State.regVal_goto _ hr.2).trans (State.regVal_with_dutyY _ hr.1)
  case dlys => exact (State.regVal_goto _ hr.2).trans (State.regVal_with_tMark _ hr.1)
  case dlyw => exact State.regVal_goto _ hr
  case irqa =>
    obtain ⟨hlast, hpwm, hpend⟩ := hr
    exact (State.regVal_setPending_a _ hpend).trans (State.regVal_serveA hlast hpwm)
  case irqj =>
    obtain ⟨hlast, hthick, hind, hpend⟩ := hr
    exact (State.regVal_setPending_j _ hpend).trans (State.regVal_serveJ hlast hthick hind)

/-- The operations that call `AdcRead()` are the four sampling ones. -/
theorem takesAdc_eq_false_iff (i : Instr) :
    i.takesAdc = false ↔ i ≠ .smpx ∧ i ≠ .smpy ∧ i ≠ .rsmx ∧ i ≠ .rsmy := by
  cases i <;> decide

theorem effect_env_of_takesAdc_eq_false {i : Instr} (s : State) (h : i.takesAdc = false) :
    (effect i s).env = s.env := by
  rw [effect_env, h, if_neg Bool.false_ne_true]

/-- No operation changes the time, the turns or the picks: a conversion leaves them. -/
theorem effect_env_frame (i : Instr) (s : State) :
    (effect i s).env.time = s.env.time ∧ (effect i s).env.turns = s.env.turns ∧
      (effect i s).env.picks = s.env.picks := by
  rw [effect_env]
  split
  · exact Env.adcRead_frame _ _
  · exact ⟨rfl, rfl, rfl⟩

theorem State.emitted_eq_nil (s : State) {i : Instr} (hr : i ≠ .rndr) (hd : i ≠ .diag) : s.emitted i = [] := by
  cases i <;> trivial

theorem effect_out_of_ne {i : Instr} (s : State) (hr : i ≠ .rndr) (hd : i ≠ .diag) :
    (effect i s).out = s.out := by
  rw [effect_out, s.emitted_eq_nil hr hd, List.append_nil]

/-! ### What the results depend on -/

section Reads

variable {s s' : State}

theorem State.now_congr (he : s.env = s'.env) : s.now = s'.now := congrArg Env.now he

theorem State.sampledBy_congr (i : Instr) (hc : s.cfg = s'.cfg) : s.sampledBy i = s'.sampledBy i := by
  simp only [State.sampledBy, State.chanX, State.chanY, hc]

theorem State.afterRender_congr (hc : s.cfg = s'.cfg) : s.afterRender = s'.afterRender := by
  simp only [State.afterRender, hc]

theorem State.mappedX_congr (hc : s.cfg = s'.cfg) (hraw : s.rawX = s'.rawX) : s.mappedX = s'.mappedX := by
  simp only [State.mappedX, hc, hraw]

theorem State.mappedY_congr (hc : s.cfg = s'.cfg) (hraw : s.rawY = s'.rawY) : s.mappedY = s'.mappedY := by
  simp only [State.mappedY, hc, hraw]

theorem State.clampedX_congr (hsq : s.squareX = s'.squareX) (hthick : s.borderThick = s'.borderThick) :
    s.clampedX = s'.clampedX := by
  simp only [State.clampedX, hsq, hthick]

theorem State.clampedY_congr (hc : s.cfg = s'.cfg) (hsq : s.squareY = s'.squareY)
    (hthick : s.borderThick = s'.borderThick) : s.clampedY = s'.clampedY := by
  simp only [State.clampedY, hc, hsq, hthick]

/-- The "read by" column fixes what an operation writes: each written register is computed from the registers read, the
configuration and the environment. -/
theorem effect_regVal_congr {i : Instr} {r : Reg} (hc : s.cfg = s'.cfg) (he : s.env = s'.env)
    (hread : ∀ q ∈ readsOf i, s.regVal q = s'.regVal q) (hr : r ∈ writesOf i) :
    (effect i s).regVal r = (effect i s').regVal r := by
  cases i <;>
    simp only [readsOf, State.regVal, List.forall_mem_cons, List.not_mem_nil, IsEmpty.forall_iff, implies_true,
      and_true, BitVec.toNat_inj, bool_toNat_inj] at hread <;>
    simp only [writesOf, List.mem_cons, List.not_mem_nil, or_false] at hr
  case smpx | rsmx | smpy | rsmy =>
    rcases hr with rfl | rfl | rfl <;>
      simp [effect, State.takeX, State.takeY, State.regVal, State.sample_snd, State.chanX, State.chanY, hc, he]
  case mapx =>
    rcases hr with rfl | rfl
    · simp only [effect, State.regVal, State.goto_squareX, State.mappedX_congr hc hread]
    · rfl
  case mapy =>
    rcases hr with rfl | rfl
    · simp only [effect, State.regVal, State.goto_squareY, State.mappedY_congr hc hread]
    · rfl
  case clpx =>
    obtain ⟨hsq, hthick⟩ := hread
    rcases hr with rfl | rfl
    · simp only [effect, State.regVal, State.goto_squareX, State.clampedX_congr hsq hthick]
    · rfl
  case clpy =>
    obtain ⟨hsq, hthick⟩ := hread
    rcases hr with rfl | rfl
    · simp only [effect, State.regVal, State.goto_squareY, State.clampedY_congr hc hsq hthick]
    · rfl
  case rndr =>
    subst hr
    simp only [effect, State.regVal, State.goto_ph, State.afterRender_congr hc]
  case pwmx | pwmy =>
    obtain ⟨hraw, hpwm⟩ := hread
    rcases hr with rfl | rfl
    · simp only [effect, State.regVal, State.goto_dutyX, State.goto_dutyY, hc, hraw, hpwm]
    · rfl
  case diag => subst hr; rfl
  case dlys =>
    rcases hr with rfl | rfl
    · simp only [effect, State.regVal, State.goto_tMark, State.now_congr he]
    · rfl
  case dlyw =>
    subst hr
    simp only [effect, State.regVal, State.goto_ph, State.now_congr he, hread]
  case irqa =>
    obtain ⟨hlast, hpwm⟩ := hread
    rcases hr with rfl | rfl | rfl
    · simp only [effect, State.regVal, State.setPendingA_lastA, State.serveA_lastA, State.now_congr he, hlast]
    · simp only [effect, State.regVal, State.setPendingA_pwmEnabled, State.serveA_pwmEnabled, State.now_congr he,
        hlast, hpwm]
    · rfl
  case irqj =>
    obtain ⟨hlast, hthick, hind⟩ := hread
    rcases hr with rfl | rfl | rfl | rfl
    · simp only [effect, State.regVal, State.setPendingJ_lastJ, State.serveJ_lastJ, State.now_congr he, hlast]
    · simp only [effect, State.regVal, State.setPendingJ_borderThick, State.serveJ_borderThick, State.now_congr he,
        hlast, hthick]
    · simp only [effect, State.regVal, State.setPendingJ_ind, State.serveJ_ind, State.now_congr he, hlast, hind]
    · rfl

theorem effect_env_congr (i : Instr) (hc : s.cfg = s'.cfg) (he : s.env = s'.env) :
    (effect i s).env = (effect i s').env := by
  rw [effect_env, effect_env, he, State.sampledBy_congr i hc]

/-- RNDR reads its whole payload (R115); the strobe of DIAG has none (R49). -/
theorem State.emitted_congr {i : Instr} (hread : ∀ q ∈ readsOf i, s.regVal q = s'.regVal q) :
    s.emitted i = s'.emitted i := by
  cases i with
  | rndr => simpa [readsOf, State.regVal, State.emitted, BitVec.toNat_inj, bool_toNat_inj] using hread
  | _ => rfl

end Reads

/-! ### The two contexts -/

/-- What an agent may not write: for SEQ the flags, the debounce timestamps and the latches, for DISP the registers of
SEQ, `ph` and `fill_variant` (R22, R108, R141). -/
def barredFrom : Agent → List Reg
  | .seq => [.pwmEnabled, .borderThick, .fillVariant, .ind, .lastA, .lastJ, .irqPendA, .irqPendJ]
  | .disp => [.ph, .rawX, .rawY, .squareX, .squareY, .dutyX, .dutyY, .tMark, .adcSel, .fillVariant]

theorem notMem_writesOf_of_mem_barredFrom (i : Instr) : ∀ r ∈ barredFrom i.agent, r ∉ writesOf i := by
  cases i <;> decide

/-- The frame of an operation, at the registers its agent may not write. -/
theorem effect_regVal_of_barred {i : Instr} {a : Agent} (s : State) (ha : i.agent = a) :
    ∀ r ∈ barredFrom a, (effect i s).regVal r = s.regVal r := by
  subst ha
  exact fun r hr => effect_regVal_of_notMem s (notMem_writesOf_of_mem_barredFrom i r hr)

/-- A service neither emits nor converts. -/
theorem effect_out_env_of_agent_disp {i : Instr} (s : State) (ha : i.agent = .disp) :
    (effect i s).out = s.out ∧ (effect i s).env = s.env := by
  cases i with
  | irqa => exact ⟨s.serveA_out, s.serveA_env⟩
  | irqj => exact ⟨s.serveJ_out, s.serveJ_env⟩
  | _ => cases ha

/-! ### The packed views -/

/-- A bit appended on the right is bit 0 of the word. -/
theorem getLsbD_append_ofBool_zero {n : Nat} (v : BitVec n) (b : Bool) :
    (v ++ BitVec.ofBool b).getLsbD 0 = b := by
  rw [BitVec.getLsbD_append]
  simp

/-- A bit appended on the right moves every other bit one place up. -/
theorem getLsbD_append_ofBool_succ {n : Nat} (v : BitVec n) (b : Bool) (k : Nat) :
    (v ++ BitVec.ofBool b).getLsbD (k + 1) = v.getLsbD k := by
  simp [BitVec.getLsbD_append]

theorem State.flagsWord_bits (s : State) :
    s.flagsWord.getLsbD 0 = s.pwmEnabled ∧ s.flagsWord.getLsbD 1 = s.borderThick ∧
      s.flagsWord.getLsbD 2 = s.fillVariant ∧ s.flagsWord.getLsbD 3 = s.ind := by
  refine ⟨getLsbD_append_ofBool_zero _ _, ?_, ?_, ?_⟩
  · exact (getLsbD_append_ofBool_succ _ _ 0).trans (getLsbD_append_ofBool_zero _ _)
  · calc s.flagsWord.getLsbD 2
      _ = _ := getLsbD_append_ofBool_succ _ _ 1
      _ = _ := getLsbD_append_ofBool_succ _ _ 0
      _ = s.fillVariant := getLsbD_append_ofBool_zero _ _
  · calc s.flagsWord.getLsbD 3
      _ = _ := getLsbD_append_ofBool_succ _ _ 2
      _ = _ := getLsbD_append_ofBool_succ _ _ 1
      _ = _ := getLsbD_append_ofBool_succ _ _ 0
      _ = s.ind := by simp

theorem State.irqpWord_bits (s : State) :
    s.irqpWord.getLsbD 0 = s.irqPendA ∧ s.irqpWord.getLsbD 1 = s.irqPendJ :=
  ⟨getLsbD_append_ofBool_zero _ _, (getLsbD_append_ofBool_succ _ _ 0).trans (by simp)⟩

/-! ### The statements -/

/-- Settles O32, from the frame of every effect. -/
theorem operationsWriteOnlyTheirRegisters : Obligations.OperationsWriteOnlyTheirRegisters := by
  intro i s t h
  obtain ⟨-, rfl⟩ := exec_eq_next_iff.1 h
  obtain ⟨htime, hturns, hpicks⟩ := effect_env_frame i s
  refine ⟨fun r hr => effect_regVal_of_notMem s hr, effect_cfg i s, htime, hturns, hpicks, ?_, effect_out_of_ne s⟩
  exact fun hsx hsy hrx hry =>
    effect_env_of_takesAdc_eq_false s ((takesAdc_eq_false_iff i).2 ⟨hsx, hsy, hrx, hry⟩)

/-- Settles O33: the effect is a function of the configuration, the environment and the registers read. -/
theorem operationsReadOnlyTheirRegisters : Obligations.OperationsReadOnlyTheirRegisters := by
  intro i s s' t hc he hread h
  obtain ⟨hw, rfl⟩ := exec_eq_next_iff.1 h
  refine ⟨effect i s', exec_eq_next_iff.2 ⟨hc ▸ hw, rfl⟩, effect_env_congr i hc he,
    fun r hr => effect_regVal_congr hc he hread hr, s.emitted i, effect_out i s, ?_⟩
  rw [State.emitted_congr hread, effect_out]

/-- Settles O34: what an agent may not write is in no "written by" list of its operations, so O32's frame covers it. -/
theorem contextsWriteApart : Obligations.ContextsWriteApart := by
  intro i s t h
  obtain ⟨-, rfl⟩ := exec_eq_next_iff.1 h
  constructor
  · intro ha
    simpa [barredFrom, State.regVal, BitVec.toNat_inj, bool_toNat_inj] using effect_regVal_of_barred s ha
  · intro ha
    obtain ⟨hout, henv⟩ := effect_out_env_of_agent_disp s ha
    simpa [barredFrom, State.regVal, BitVec.toNat_inj, bool_toNat_inj, hout, henv] using
      effect_regVal_of_barred s ha

/-- Settles O36, from the place of each bit in the concatenation. -/
theorem packedFlagPositions : Obligations.PackedFlagPositions := by
  intro s
  obtain ⟨h0, h1, h2, h3⟩ := s.flagsWord_bits
  exact ⟨h0, h1, h2, h3, s.irqpWord_bits⟩

end Sys2Proof.Machine
end

section
/-! PROOFS. The block's surroundings (spec/20_memory.md): a listed event of the environment as a step (R9), the
microsecond counter in true time (R47). -/

namespace Sys2Proof.Machine

open Sys2Proof

/-! ### A listed turn -/

theorem State.takeTurn_of_listed {s : State} {u : Turn} {rest : List Turn} (h : s.env.turns = u :: rest) :
    s.takeTurn = (u, { s with env := { s.env with turns := rest } }) := by
  rw [State.takeTurn, Env.turn_cons h]

/-- A listed event is the whole of its step: the turn leaves the list and the event has its effect. -/
theorem step_of_listed_event {s : State} {e : EnvEvent} {rest : List Turn} (hw : s.cfg.wellFormed = true)
    (h : s.env.turns = .env e :: rest) :
    step s = .next (State.onEvent e { s with env := { s.env with turns := rest } }) := by
  rw [step, State.configured_of_wellFormed hw, State.takeTurn_of_listed h]

/-! ### The counter -/

/-- The port `now` in true time (R47). -/
theorem State.now_toNat (s : State) : s.now.toNat = s.env.time % 4294967296 :=
  BitVec.toNat_ofNat _ _

theorem State.onEvent_time (us : Nat) (s : State) :
    s.onEvent (.time us) = { s with env := { s.env with time := s.env.time + us } } := rfl

/-! ### The statement -/

/-- Settles O42: the step is the event's effect, and the port shows the time it leaves. -/
theorem timeEventAdvancesCounter : Obligations.TimeEventAdvancesCounter := by
  intro s us rest hw hturns
  refine ⟨{ s with env := { s.env with turns := rest, time := s.env.time + us } }, ?_, rfl, State.now_toNat _⟩
  rw [step_of_listed_event hw hturns, State.onEvent_time]

end Sys2Proof.Machine
end

section
/-! PROOFS. The encoding (spec/30_encoding.md): decoding and encoding are inverse to each other (R60, R61, R63, R64);
what one line of a trace does and when it is legal (R65); the pseudo-operations TICK, TICK2, PRESSA and PRESSJ
(R67), with the ranges that make the narrowing of a position and of a duty into its register lossless. -/

namespace Sys2Proof

/-! ### Codes -/

theorem decode_encode (i : Instr) : decode (encode i) = .ok i := by
  cases i <;> rfl

theorem encode_of_decodeSeq {b : BitVec 4} {i : Instr} (h : decodeSeq b = .ok i) : encode i = .seq b := by
  unfold decodeSeq at h
  split at h <;> cases h <;> exact congrArg Code.seq (BitVec.eq_of_toNat_eq (Eq.symm ‹b.toNat = _›))

theorem encode_of_decodeIrq {b : BitVec 1} {i : Instr} (h : decodeIrq b = .ok i) : encode i = .irq b := by
  rcases BitVec.eq_zero_or_eq_one b with rfl | rfl <;> cases h <;> rfl

/-- No two codes name one operation: each is the operation's code. -/
theorem encode_of_decode {c : Code} {i : Instr} (h : decode c = .ok i) : encode i = c := by
  cases c with
  | seq b => exact encode_of_decodeSeq h
  | irq b => exact encode_of_decodeIrq h

theorem decodeSeq_eq_error_iff (b : BitVec 4) :
    decodeSeq b = .error .reservedPhase ↔ b.toNat = 14 ∨ b.toNat = 15 := by
  have bound := b.isLt
  unfold decodeSeq
  split
  case h_15 => simp only [imp_false] at *; simp only [true_iff]; omega
  all_goals simp only [reduceCtorEq, false_iff]; omega

theorem exists_decodeIrq_eq_ok (b : BitVec 1) : ∃ i, decodeIrq b = .ok i := by
  rcases BitVec.eq_zero_or_eq_one b with rfl | rfl
  · exact ⟨.irqa, rfl⟩
  · exact ⟨.irqj, rfl⟩

end Sys2Proof

namespace Sys2Proof.Machine

open Sys2Proof

/-! ### The ranges of the values computed (R80, R84 to R86, R90) -/

theorem toNat_ofInt_of_range {w : Nat} {v : Int} (hlo : 0 ≤ v) (hhi : v < 2 ^ w) :
    ((BitVec.ofInt w v).toNat : Int) = v := by
  have fits : v % ((2 ^ w : Nat) : Int) = v := Int.emod_eq_of_lt hlo (by exact_mod_cast hhi)
  rw [BitVec.toNat_ofInt, fits, Int.toNat_of_nonneg hlo]

theorem clamp_range {lo hi : Int} (h : lo ≤ hi) (v : Int) : lo ≤ clamp lo hi v ∧ clamp lo hi v ≤ hi :=
  ⟨le_min (le_max_right v lo) h, min_le_right _ _⟩

theorem coordMap_range {smax : Int} (h : 0 ≤ smax) (raw center : Int) :
    0 ≤ coordMap raw center smax ∧ coordMap raw center smax ≤ smax :=
  clamp_range h _

theorem borderOffset_range (thick : Bool) : 1 ≤ borderOffset thick ∧ borderOffset thick ≤ 3 := by
  cases thick <;> decide

/-- The clamp keeps an 8 by 8 square off the outermost frame of a screen of at least 14 pixels (R5, R88). -/
theorem borderClamp_range {dim : Int} (h : 14 ≤ dim) (thick : Bool) (v : Int) :
    1 ≤ borderClamp dim thick v ∧ borderClamp dim thick v ≤ dim - 9 := by
  obtain ⟨offset_ge, offset_le⟩ := borderOffset_range thick
  have room : borderOffset thick ≤ dim - (Config.square : Nat) - borderOffset thick := by
    simp only [Config.square]; omega
  obtain ⟨hlo, hhi⟩ := clamp_range room v
  simp only [Config.square] at hhi
  exact ⟨offset_ge.trans hlo, hhi.trans (by omega)⟩

/-- The duty of a travel `d` beyond the deadzone, out of `m`: a share of DUTY_MAX (R90). -/
theorem tdiv_share_range {d m : Int} (hd : 0 ≤ d) (hdm : d ≤ m) (hm : 0 < m) :
    0 ≤ tdiv (d * 65535) m ∧ tdiv (d * 65535) m ≤ 65535 := by
  have nonneg : 0 ≤ d * 65535 := by omega
  rw [tdiv, Int.tdiv_eq_ediv_of_nonneg nonneg]
  exact ⟨Int.ediv_nonneg nonneg hm.le, Int.ediv_le_of_le_mul hm (by omega)⟩

/-- The duty fits its 16-bit register for every sample and every centre that R5 admits (R90). -/
theorem brightness_range {raw center : Int} (hraw : 0 ≤ raw) (hmax : raw ≤ 4095) (hlo : 40 < center)
    (hhi : 40 < 4095 - center) (en : Bool) :
    0 ≤ brightness raw center en ∧ brightness raw center en ≤ 65535 := by
  suffices h : brightness raw center en ∈ Set.Icc (0 : Int) 65535 from h
  unfold brightness
  simp only [Config.deadzone, Config.adcMax, Config.dutyMax]
  refine ite_mem.2 ⟨fun _ => by decide, fun _ => ite_mem.2 ⟨fun _ => by decide, fun outside => ?_⟩⟩
  refine ite_mem.2 ⟨fun _ => by decide, fun _ => ?_⟩
  rcases lt_or_ge 0 (raw - center) with right | left
  · rw [if_pos right, abs_of_pos right]
    exact tdiv_share_range (by omega) (by omega) (by omega)
  · rw [if_neg (not_lt.2 left), abs_of_nonpos left]
    exact tdiv_share_range (by omega) (by omega) (by omega)

/-! ### The inputs of a line (R65) -/

theorem Env.adcRead_answerNext (ch : Channel) (v : Sample) (e : Env) : (e.answerNext ch v).adcRead ch = (v, e) := by
  by_cases h : ch = 0
  · simp only [Env.answerNext, Env.adcRead, if_pos h]
  · simp only [Env.answerNext, Env.adcRead, if_neg h]

theorem Env.advanceTo_now (v : Stamp) (e : Env) : (e.advanceTo v).now = v := by
  simp only [Env.advanceTo, Env.now, BitVec.ofNat_add, BitVec.ofNat_toNat, BitVec.setWidth_eq]
  rw [BitVec.add_comm, BitVec.sub_add_cancel]

/-- The state whose environment is about to give the inputs a line names, and nothing else: what is left of
`State.supply` once the turn and the pick are taken (`State.fetch_supply`). -/
def State.withInputs (i : Instr) (adc : Option Sample) (now : Option Stamp) (s : State) : State :=
  let timed := match now with
    | some v => s.env.advanceTo v
    | none => s.env
  { s with env := match adc with
    | some v => timed.answerNext (s.sampledBy i) v
    | none => timed }

/-- A turn that is given is the next one taken. -/
theorem State.takeTurn_giveTurn (s : State) (t : Turn) : (s.giveTurn t).takeTurn = (t, s) := rfl

end Sys2Proof.Machine

namespace Sys2Proof

/-! ### The lines of the dispatcher (R61, R137) -/

/-- The operation that serves a line (R61); `encode_service` ties it to the line's code. -/
def Line.service : Line → Instr
  | .a => .irqa
  | .j => .irqj

/-- The edge of a line as a line of a trace (R66). -/
def Line.edge : Line → TraceLine
  | .a => .edga
  | .j => .edgj

/-- The press of a line's button as a pseudo-operation (R67). -/
def Line.press (now : Stamp) : Line → Pseudo
  | .a => .pressA now
  | .j => .pressJ now

/-- The line other than the given one (R41). -/
def Line.other : Line → Line
  | .a => .j
  | .j => .a

/-- The IRQ_PRIORITY under which the line is served first (R137). -/
def Line.first : Line → IrqPriority
  | .a => .aFirst
  | .j => .jFirst

theorem encode_service (l : Line) : encode l.service = l.code := by
  cases l <;> rfl

theorem Instr.seq_or_service (i : Instr) : i.agent = .seq ∨ ∃ l : Line, i = l.service := by
  cases i with
  | irqa => exact .inr ⟨.a, rfl⟩
  | irqj => exact .inr ⟨.j, rfl⟩
  | _ => exact .inl rfl

theorem IrqPriority.eq_first_or_any {p : IrqPriority} {l : Line} (h : p ≠ l.other.first) :
    p = l.first ∨ p = .any := by
  revert h
  cases l <;> cases p <;> decide

end Sys2Proof

namespace Sys2Proof.Machine

open Sys2Proof

section Lines

variable {s t : State} {i : Instr} {adc : Option Sample} {now : Option Stamp}

/-! ### Which operation is enabled (R105, R120, R121, R137) -/

theorem State.enables_seq_iff (h : i.agent = .seq) :
    s.enables i = true ↔ s.irqPendA = false ∧ s.irqPendJ = false ∧ encode i = .seq s.ph := by
  have seqTest : s.enables i = (!s.irqPendA && !s.irqPendJ && decide (encode i = .seq s.ph)) := by
    cases i <;> trivial
  simp [seqTest, and_assoc]

theorem State.enables_service_iff (l : Line) :
    s.enables l.service = true ↔
      s.pending l = true ∧ (s.pending l.other = false ∨ s.cfg.irqPriority ≠ l.other.first) := by
  cases l <;> simp [State.enables, Line.service, Line.other, Line.first]

/-- A set latch whose line need not wait for the other is served next (R105, R137). -/
theorem State.fetch_service {l : Line} (hl : s.pending l = true)
    (h : s.pending l.other = false ∨ s.cfg.irqPriority = l.first) : s.fetch = (l.code, s) := by
  cases other : s.pending l.other with
  | false => cases l <;> simp_all [State.fetch, Line.other]
  | true =>
    have first : s.cfg.irqPriority = l.first := h.resolve_left (by simp [other])
    cases l <;> simp_all [State.fetch, State.firstLine, Line.other, Line.first]

/-- Under ANY the listed pick is served first, and is taken off the list (R137). -/
theorem State.fetch_listed_pick {l : Line} {rest : List Line} (ha : s.irqPendA = true) (hj : s.irqPendJ = true)
    (hany : s.cfg.irqPriority = .any) (hpick : s.env.picks = l :: rest) :
    s.fetch = (l.code, { s with env := { s.env with picks := rest } }) := by
  simp [State.fetch, State.firstLine, Env.pick, ha, hj, hany, hpick]

/-! ### What a line's supply makes of the state (R65) -/

/-- Whether a line has to say which latch is served: both are set and the choice is open (R137). -/
def State.choiceOpen (s : State) : Bool :=
  s.irqPendA && s.irqPendJ && decide (s.cfg.irqPriority = .any)

theorem State.supply_of_choice_closed (h : s.choiceOpen = false) :
    s.supply i adc now = (s.withInputs i adc now).giveTurn .block := by
  rw [State.choiceOpen] at h
  simp only [State.supply, h]
  rfl

theorem State.supply_of_choice_open (h : s.choiceOpen = true) (l : Line) :
    s.supply l.service adc now =
      State.giveTurn .block { s.withInputs l.service adc now with
        env := { (s.withInputs l.service adc now).env with
          picks := l :: (s.withInputs l.service adc now).env.picks } } := by
  rw [State.choiceOpen] at h
  simp only [State.supply, h]
  cases l <;> rfl

/-- A legal line gives the block the turn at the code of the line's operation, with the line's inputs next. -/
theorem State.fetch_supply (h : s.enables i = true) :
    (s.supply i adc now).takeTurn.1 = .block ∧
      (s.supply i adc now).takeTurn.2.fetch = (encode i, s.withInputs i adc now) := by
  rcases i.seq_or_service with hseq | ⟨l, rfl⟩
  · obtain ⟨ha, hj, hph⟩ := (State.enables_seq_iff hseq).1 h
    have closed : s.choiceOpen = false := by simp [State.choiceOpen, ha]
    rw [State.supply_of_choice_closed closed, State.takeTurn_giveTurn, hph]
    exact ⟨rfl, State.fetch_seq (s := s.withInputs i adc now) ha hj⟩
  · obtain ⟨hl, hother⟩ := (State.enables_service_iff l).1 h
    rw [encode_service]
    cases choice : s.choiceOpen with
    | true =>
      obtain ⟨⟨ha, hj⟩, hany⟩ : (s.irqPendA = true ∧ s.irqPendJ = true) ∧ s.cfg.irqPriority = .any := by
        simpa [State.choiceOpen] using choice
      rw [State.supply_of_choice_open choice, State.takeTurn_giveTurn]
      exact ⟨rfl, State.fetch_listed_pick ha hj hany rfl⟩
    | false =>
      rw [State.supply_of_choice_closed choice, State.takeTurn_giveTurn]
      refine ⟨rfl, State.fetch_service (s := s.withInputs l.service adc now) hl ?_⟩
      rcases hother with hother | hprio
      · exact .inl hother
      · rcases IrqPriority.eq_first_or_any hprio with hfirst | hany
        · exact .inr hfirst
        · refine .inl ?_
          cases l <;> simp_all [State.choiceOpen, Line.other, State.withInputs]

/-! ### One line of a trace (R65) -/

theorem answered_eq_some {a : Answer} : answered a = some t ↔ a = .next t := by
  cases a <;> simp [answered]

/-- The step of a legal line is the effect of its operation on the inputs it names. -/
theorem step_supply (hw : s.cfg.wellFormed = true) (h : s.enables i = true) :
    step (s.supply i adc now) = .next (effect i (s.withInputs i adc now)) := by
  obtain ⟨hturn, hfetch⟩ := State.fetch_supply (adc := adc) (now := now) h
  rw [step_of_block_turn (s := s.supply i adc now) hw hturn,
    blockStep_of_decode (by rw [hfetch, decode_encode]), hfetch]
  exact exec_eq_next_iff.2 ⟨hw, rfl⟩

/-- An operation's line is legal exactly where it names the operation's inputs, the operation is enabled and the
configuration is well-formed; it then leaves the operation's effect. -/
theorem traceStep_op_iff :
    s.traceStep (.op i adc now) = some t ↔
      (TraceLine.op i adc now).wellFormed = true ∧ s.enables i = true ∧ s.cfg.wellFormed = true ∧
        effect i (s.withInputs i adc now) = t := by
  simp only [State.traceStep, Option.ite_none_right_eq_some, Bool.and_eq_true, and_assoc, answered_eq_some]
  refine and_congr_right fun _ => and_congr_right fun h => ?_
  cases hw : s.cfg.wellFormed with
  | true => simp [step_supply hw h]
  | false => simp [step_of_illFormed (s := s.supply i adc now) hw]

theorem traceStep_eq_none_of_not_enabled (h : ¬s.enables i = true) : s.traceStep (.op i adc now) = none :=
  Option.eq_none_iff_forall_ne_some.2 fun _ ht => h (traceStep_op_iff.1 ht).2.1

/-- An edge's line is legal in every well-formed configuration and sets its latch (R66, R100). -/
theorem traceStep_edge_iff (l : Line) :
    s.traceStep l.edge = some t ↔ s.cfg.wellFormed = true ∧ s.setPending l true = t := by
  have edgeStep : s.traceStep l.edge = answered (s.configured (.next (s.setPending l true))) := by
    cases l <;> rfl
  rw [edgeStep, answered_eq_some, State.configured_eq_next, Host.Outcome.next.injEq]

/-- A legal line of the sequencer is run off the front of a trace. -/
theorem runTrace_op_cons (ls : List TraceLine) (hw : s.cfg.wellFormed = true) (ha : s.irqPendA = false)
    (hj : s.irqPendJ = false) (hline : (TraceLine.op i adc now).wellFormed = true) (hseq : i.agent = .seq)
    (hph : encode i = .seq s.ph) :
    State.runTrace (.op i adc now :: ls) s = State.runTrace ls (effect i (s.withInputs i adc now)) := by
  have enabled := (State.enables_seq_iff hseq).2 ⟨ha, hj, hph⟩
  rw [State.runTrace, traceStep_op_iff.2 ⟨hline, enabled, hw, rfl⟩]

theorem State.withInputs_none (i : Instr) (s : State) : s.withInputs i none none = s := rfl

/-- A line without inputs is its operation's effect alone. -/
theorem runTrace_bare_cons (ls : List TraceLine) (hw : s.cfg.wellFormed = true) (ha : s.irqPendA = false)
    (hj : s.irqPendJ = false) (hline : (bare i).wellFormed = true) (hseq : i.agent = .seq)
    (hph : encode i = .seq s.ph) :
    State.runTrace (bare i :: ls) s = State.runTrace ls (effect i s) := by
  rw [bare, runTrace_op_cons ls hw ha hj hline hseq hph, State.withInputs_none]

end Lines

/-! ### The statements on codes and lines -/

/-- Settles O1: the table's two directions. -/
theorem decodeInvertsEncode : Obligations.DecodeInvertsEncode :=
  fun _ i => ⟨fun h => (encode_of_decode h).symm, fun h => h ▸ decode_encode i⟩

/-- Settles O2, from the two code spaces apart. -/
theorem reservedCodesAreFourteenAndFifteen : Obligations.ReservedCodesAreFourteenAndFifteen :=
  ⟨decodeSeq_eq_error_iff, exists_decodeIrq_eq_ok⟩

/-- Settles O3: each written code is the encoder's. -/
theorem writtenCodesDecode : Obligations.WrittenCodesDecode :=
  ⟨decode_encode .smpx, decode_encode .clpy, decode_encode .rndr, decode_encode .pwmx, decode_encode .dlyw,
    decode_encode .irqa, decode_encode .irqj⟩

/-- Settles O48: in each case the operation is not enabled. -/
theorem disabledStepsAreIllegalLines : Obligations.DisabledStepsAreIllegalLines := by
  intro s i adc now
  refine ⟨fun hseq hset => ?_, fun hseq hph => ?_, fun ha => ?_, fun hj => ?_, fun _ hj hprio => ?_,
    fun ha _ hprio => ?_⟩ <;> refine traceStep_eq_none_of_not_enabled fun h => ?_
  · obtain ⟨ha, hj, -⟩ := (State.enables_seq_iff hseq).1 h
    simp [ha, hj] at hset
  · obtain ⟨-, -, hcode⟩ := (State.enables_seq_iff hseq).1 h
    exact hph hcode
  · obtain ⟨hset, -⟩ := (State.enables_service_iff .a).1 h
    simp [ha] at hset
  · obtain ⟨hset, -⟩ := (State.enables_service_iff .j).1 h
    simp [hj] at hset
  · obtain ⟨-, hother⟩ := (State.enables_service_iff .a).1 h
    simp [Line.other, Line.first, hj, hprio] at hother
  · obtain ⟨-, hother⟩ := (State.enables_service_iff .j).1 h
    simp [Line.other, Line.first, ha, hprio] at hother

section Ticks

variable {s : State}

/-! ### The parts of a tick (R67, R120) -/

theorem State.tickBoundary_iff :
    s.tickBoundary = true ↔ s.ph = 0 ∧ s.irqPendA = false ∧ s.irqPendJ = false := by
  simp [State.tickBoundary, and_assoc]

/-- Both axes sampled, X first (R71 to R74), with the phase the pair leaves. -/
def State.sampled (x y : Sample) (next : Phase) (s : State) : State :=
  { s with ph := next, adcSel := s.chanY, rawX := x, rawY := y }

/-- The square put at a position and handed to the renderer (R115). -/
def State.placedAt (x y : Int) (s : State) : State :=
  { s with
    ph := s.afterRender
    squareX := BitVec.ofInt 8 x
    squareY := BitVec.ofInt 8 y
    out := s.out ++ [.render (BitVec.ofInt 8 x) (BitVec.ofInt 8 y) s.borderThick s.fillVariant] }

/-- The square put where the samples held map and clamp it (R82 to R86), and handed over. -/
def State.placed (s : State) : State :=
  s.placedAt (borderClamp Config.screenW s.borderThick s.mappedX)
    (borderClamp s.cfg.screenH s.borderThick s.mappedY)

/-- The duties computed from the samples held, the diagnostic strobe, and the delay from `t0` to `t1` (R93, R94, R128,
R130, R131). -/
def State.finished (t0 t1 : Stamp) (s : State) : State :=
  { s with
    env := (s.env.advanceTo t0).advanceTo t1
    ph := 0
    dutyX := BitVec.ofInt 16 (brightness s.rawX.toNat s.cfg.centerX s.pwmEnabled)
    dutyY := BitVec.ofInt 16 (brightness s.rawY.toNat s.cfg.centerY s.pwmEnabled)
    tMark := t0
    out := s.out ++ [.diag] }

/-! ### The position and the duties fit their registers (R12, R13) -/

theorem State.mappedX_eq (s : State) :
    s.mappedX = if s.cfg.invertX then 120 - coordMap s.rawX.toNat s.cfg.centerX s.cfg.smaxX
      else coordMap s.rawX.toNat s.cfg.centerX s.cfg.smaxX := rfl

theorem State.mappedY_eq (s : State) :
    s.mappedY = (s.cfg.screenH : Int) - 8 - coordMap s.rawY.toNat s.cfg.centerY s.cfg.smaxY := rfl

theorem State.mappedX_range (hw : s.cfg.wellFormed = true) : 0 ≤ s.mappedX ∧ s.mappedX ≤ 120 := by
  obtain ⟨-, -, -, -, -, -, -, -, -, smaxX, -⟩ := s.cfg.wellFormed_iff.1 hw
  obtain ⟨hlo, hhi⟩ := coordMap_range (smax := s.cfg.smaxX) (by omega) s.rawX.toNat s.cfg.centerX
  rw [State.mappedX_eq]
  split <;> omega

theorem State.mappedY_range (hw : s.cfg.wellFormed = true) : 0 ≤ s.mappedY ∧ s.mappedY ≤ s.cfg.screenH - 8 := by
  obtain ⟨-, -, -, -, -, -, -, h14, -, -, smaxY⟩ := s.cfg.wellFormed_iff.1 hw
  obtain ⟨hlo, hhi⟩ := coordMap_range (smax := s.cfg.smaxY) (by omega) s.rawY.toNat s.cfg.centerY
  rw [State.mappedY_eq]
  omega

theorem State.mappedX_fits (hw : s.cfg.wellFormed = true) :
    ((BitVec.ofInt 8 s.mappedX).toNat : Int) = s.mappedX := by
  obtain ⟨hlo, hhi⟩ := State.mappedX_range hw
  exact toNat_ofInt_of_range hlo (by omega)

theorem State.mappedY_fits (hw : s.cfg.wellFormed = true) :
    ((BitVec.ofInt 8 s.mappedY).toNat : Int) = s.mappedY := by
  obtain ⟨-, -, -, -, -, -, -, -, h256, -⟩ := s.cfg.wellFormed_iff.1 hw
  obtain ⟨hlo, hhi⟩ := State.mappedY_range hw
  exact toNat_ofInt_of_range hlo (by omega)

/-- A clamped coordinate fits its register on every screen that R5 admits. -/
theorem borderClamp_fits {dim : Int} (hlo : 14 ≤ dim) (hhi : dim ≤ 256) (thick : Bool) (v : Int) :
    ((BitVec.ofInt 8 (borderClamp dim thick v)).toNat : Int) = borderClamp dim thick v := by
  obtain ⟨clamp_ge, clamp_le⟩ := borderClamp_range hlo thick v
  exact toNat_ofInt_of_range (by omega) (by omega)

theorem brightness_fits (raw : Sample) {center : Nat} (hlo : 40 < center) (hhi : 40 < 4095 - center) (en : Bool) :
    ((BitVec.ofInt 16 (brightness raw.toNat center en)).toNat : Int) = brightness raw.toNat center en := by
  have bound := raw.isLt
  obtain ⟨duty_ge, duty_le⟩ := brightness_range (raw := raw.toNat) (center := center)
    (by omega) (by omega) (by omega) (by omega) en
  exact toNat_ofInt_of_range duty_ge (by omega)

theorem State.placed_squareX_toNat (s : State) :
    (s.placed.squareX.toNat : Int) = borderClamp 128 s.borderThick s.mappedX :=
  borderClamp_fits (by decide) (by decide) _ _

theorem State.placed_squareY_toNat (hw : s.cfg.wellFormed = true) :
    (s.placed.squareY.toNat : Int) = borderClamp s.cfg.screenH s.borderThick s.mappedY := by
  obtain ⟨-, -, -, -, -, -, -, h14, h256, -⟩ := s.cfg.wellFormed_iff.1 hw
  exact borderClamp_fits (by omega) (by omega) _ _

theorem State.finished_dutyX_toNat (hw : s.cfg.wellFormed = true) (t0 t1 : Stamp) :
    ((s.finished t0 t1).dutyX.toNat : Int) = brightness s.rawX.toNat s.cfg.centerX s.pwmEnabled := by
  obtain ⟨hlo, hhi, -⟩ := s.cfg.wellFormed_iff.1 hw
  exact brightness_fits _ hlo hhi _

theorem State.finished_dutyY_toNat (hw : s.cfg.wellFormed = true) (t0 t1 : Stamp) :
    ((s.finished t0 t1).dutyY.toNat : Int) = brightness s.rawY.toNat s.cfg.centerY s.pwmEnabled := by
  obtain ⟨-, -, hlo, hhi, -⟩ := s.cfg.wellFormed_iff.1 hw
  exact brightness_fits _ hlo hhi _

theorem State.finished_tickBoundary (quiet : s.irqPendA = false ∧ s.irqPendJ = false) (t0 t1 : Stamp) :
    (s.finished t0 t1).tickBoundary = true :=
  State.tickBoundary_iff.2 ⟨rfl, quiet⟩

/-! ### What the operations of each part leave -/

theorem State.takeX_answered (v : Sample) :
    State.takeX { s with env := s.env.answerNext s.chanX v } = { s with adcSel := s.chanX, rawX := v } := by
  change ({ s with
    adcSel := s.chanX
    env := ((s.env.answerNext s.chanX v).adcRead s.chanX).2
    rawX := ((s.env.answerNext s.chanX v).adcRead s.chanX).1 } : State) = _
  rw [Env.adcRead_answerNext]

theorem State.takeY_answered (v : Sample) :
    State.takeY { s with env := s.env.answerNext s.chanY v } = { s with adcSel := s.chanY, rawY := v } := by
  change ({ s with
    adcSel := s.chanY
    env := ((s.env.answerNext s.chanY v).adcRead s.chanY).2
    rawY := ((s.env.answerNext s.chanY v).adcRead s.chanY).1 } : State) = _
  rw [Env.adcRead_answerNext]

theorem effect_smpx_withInputs (v : Sample) :
    effect .smpx (s.withInputs .smpx (some v) none) = { s with ph := 1, adcSel := s.chanX, rawX := v } :=
  congrArg (State.goto 1) (State.takeX_answered v)

theorem effect_smpy_withInputs (v : Sample) :
    effect .smpy (s.withInputs .smpy (some v) none) = { s with ph := 2, adcSel := s.chanY, rawY := v } :=
  congrArg (State.goto 2) (State.takeY_answered v)

theorem effect_rsmx_withInputs (v : Sample) :
    effect .rsmx (s.withInputs .rsmx (some v) none) = { s with ph := 8, adcSel := s.chanX, rawX := v } :=
  congrArg (State.goto 8) (State.takeX_answered v)

theorem effect_rsmy_withInputs (v : Sample) :
    effect .rsmy (s.withInputs .rsmy (some v) none) = { s with ph := 9, adcSel := s.chanY, rawY := v } :=
  congrArg (State.goto 9) (State.takeY_answered v)

theorem effect_mapx_to_rndr (hw : s.cfg.wellFormed = true) :
    effect .rndr (effect .clpy (effect .clpx (effect .mapy (effect .mapx s)))) = s.placed := by
  have clampX : State.clampedX (effect .mapy (effect .mapx s)) = borderClamp Config.screenW s.borderThick s.mappedX :=
    congrArg (borderClamp _ _) (State.mappedX_fits hw)
  have clampY : State.clampedY (effect .clpx (effect .mapy (effect .mapx s))) =
      borderClamp s.cfg.screenH s.borderThick s.mappedY :=
    congrArg (borderClamp _ _) (State.mappedY_fits hw)
  rw [State.placed, ← clampX, ← clampY]
  rfl

theorem effect_dlys_withInputs (now : Stamp) :
    effect .dlys (s.withInputs .dlys none (some now)) =
      { s with env := s.env.advanceTo now, ph := 13, tMark := now } :=
  congrArg (fun mark : Stamp => { s with env := s.env.advanceTo now, ph := 13, tMark := mark })
    (Env.advanceTo_now now s.env)

/-- The delay ends at a DLYW where the counter reads at least TICK_DELAY_US more than at DLYS (R131). -/
theorem effect_dlyw_withInputs {now : Stamp} (hdelay : 50000 ≤ (now - s.tMark).toNat) :
    effect .dlyw (s.withInputs .dlyw none (some now)) = { s with env := s.env.advanceTo now, ph := 0 } := by
  have passed : delayPassed (s.env.advanceTo now).now s.tMark = true := by
    rw [Env.advanceTo_now]
    exact (delayPassed_iff now s.tMark).2 hdelay
  exact congrArg (fun done : Bool => State.goto (if done then 0 else 13) { s with env := s.env.advanceTo now }) passed

theorem effect_pwmx_to_dlyw {t0 t1 : Stamp} (hdelay : 50000 ≤ (t1 - t0).toNat) :
    effect .dlyw (State.withInputs .dlyw none (some t1)
      (effect .dlys (State.withInputs .dlys none (some t0)
        (effect .diag (effect .pwmy (effect .pwmx s)))))) = s.finished t0 t1 := by
  rw [effect_dlys_withInputs]
  exact effect_dlyw_withInputs hdelay

/-! ### The parts of a tick as traces (R67) -/

section Parts

variable (ls : List TraceLine) (hw : s.cfg.wellFormed = true) (ha : s.irqPendA = false) (hj : s.irqPendJ = false)

include hw ha hj

theorem runTrace_first_samples (hph : s.ph = 0) (x y : Sample) :
    State.runTrace (.op .smpx (some x) none :: .op .smpy (some y) none :: ls) s =
      State.runTrace ls (s.sampled x y 2) := by
  rw [runTrace_op_cons _ hw ha hj rfl rfl (by rw [hph]; rfl), effect_smpx_withInputs]
  refine Eq.trans (runTrace_op_cons _ hw ha hj rfl rfl rfl) ?_
  rw [effect_smpy_withInputs]
  rfl

theorem runTrace_second_samples (hph : s.ph = 7) (x y : Sample) :
    State.runTrace (.op .rsmx (some x) none :: .op .rsmy (some y) none :: ls) s =
      State.runTrace ls (s.sampled x y 9) := by
  rw [runTrace_op_cons _ hw ha hj rfl rfl (by rw [hph]; rfl), effect_rsmx_withInputs]
  refine Eq.trans (runTrace_op_cons _ hw ha hj rfl rfl rfl) ?_
  rw [effect_rsmy_withInputs]
  rfl

theorem runTrace_placement (hph : s.ph = 2) :
    State.runTrace (bare .mapx :: bare .mapy :: bare .clpx :: bare .clpy :: bare .rndr :: ls) s =
      State.runTrace ls s.placed := by
  rw [← effect_mapx_to_rndr hw]
  refine Eq.trans (runTrace_bare_cons _ hw ha hj rfl rfl (by rw [hph]; rfl)) ?_
  refine Eq.trans (runTrace_bare_cons _ hw ha hj rfl rfl rfl) ?_
  refine Eq.trans (runTrace_bare_cons _ hw ha hj rfl rfl rfl) ?_
  refine Eq.trans (runTrace_bare_cons _ hw ha hj rfl rfl rfl) ?_
  exact runTrace_bare_cons _ hw ha hj rfl rfl rfl

theorem runTrace_finish (hph : s.ph = 9) {t0 t1 : Stamp} (hdelay : 50000 ≤ (t1 - t0).toNat) :
    State.runTrace (bare .pwmx :: bare .pwmy :: bare .diag :: .op .dlys none (some t0) ::
        .op .dlyw none (some t1) :: ls) s = State.runTrace ls (s.finished t0 t1) := by
  rw [← effect_pwmx_to_dlyw hdelay]
  refine Eq.trans (runTrace_bare_cons _ hw ha hj rfl rfl (by rw [hph]; rfl)) ?_
  refine Eq.trans (runTrace_bare_cons _ hw ha hj rfl rfl rfl) ?_
  refine Eq.trans (runTrace_bare_cons _ hw ha hj rfl rfl rfl) ?_
  refine Eq.trans (runTrace_op_cons _ hw ha hj rfl rfl rfl) ?_
  exact runTrace_op_cons _ hw ha hj rfl rfl rfl

/-- A whole tick, whatever the state it starts from holds (R67). -/
theorem runTrace_tick (hph : s.ph = 0) (hresample : s.cfg.resamplePwm = false) (ax ay : Sample) {t0 t1 : Stamp}
    (hdelay : 50000 ≤ (t1 - t0).toNat) :
    State.runTrace (tick ax ay t0 t1) s = some ((s.sampled ax ay 2).placed.finished t0 t1) := by
  have next : (s.sampled ax ay 2).placed.ph = 9 := if_neg (by simp [State.sampled, hresample])
  calc State.runTrace (tick ax ay t0 t1) s
    _ = State.runTrace ((tick ax ay t0 t1).drop 2) (s.sampled ax ay 2) := runTrace_first_samples _ hw ha hj hph ax ay
    _ = State.runTrace ((tick ax ay t0 t1).drop 7) (s.sampled ax ay 2).placed := runTrace_placement _ hw ha hj rfl
    _ = some ((s.sampled ax ay 2).placed.finished t0 t1) :=
      runTrace_finish (s := (s.sampled ax ay 2).placed) [] hw ha hj next hdelay

/-- A whole tick with re-sampling (R67, R73, R74). -/
theorem runTrace_tick2 (hph : s.ph = 0) (hresample : s.cfg.resamplePwm = true) (ax ay bx bY : Sample)
    {t0 t1 : Stamp} (hdelay : 50000 ≤ (t1 - t0).toNat) :
    State.runTrace (tick2 ax ay bx bY t0 t1) s =
      some (((s.sampled ax ay 2).placed.sampled bx bY 9).finished t0 t1) := by
  have next : (s.sampled ax ay 2).placed.ph = 7 := if_pos hresample
  calc State.runTrace (tick2 ax ay bx bY t0 t1) s
    _ = State.runTrace ((tick2 ax ay bx bY t0 t1).drop 2) (s.sampled ax ay 2) :=
      runTrace_first_samples _ hw ha hj hph ax ay
    _ = State.runTrace ((tick2 ax ay bx bY t0 t1).drop 7) (s.sampled ax ay 2).placed :=
      runTrace_placement _ hw ha hj rfl
    _ = State.runTrace ((tick2 ax ay bx bY t0 t1).drop 9) ((s.sampled ax ay 2).placed.sampled bx bY 9) :=
      runTrace_second_samples (s := (s.sampled ax ay 2).placed) _ hw ha hj next bx bY
    _ = some (((s.sampled ax ay 2).placed.sampled bx bY 9).finished t0 t1) :=
      runTrace_finish (s := (s.sampled ax ay 2).placed.sampled bx bY 9) [] hw ha hj rfl hdelay

end Parts

end Ticks

/-! ### The statements on ticks -/

/-- Settles O58: the state a whole tick leaves, read field by field. -/
theorem tickComputesScene : Obligations.TickComputesScene := by
  intro s ax ay t0 t1 hw hresample hb hdelay
  obtain ⟨hph, ha, hj⟩ := State.tickBoundary_iff.1 hb
  have run := runTrace_tick hw ha hj hph hresample ax ay hdelay
  let held := s.sampled ax ay 2
  refine ⟨held.placed.finished t0 t1, run, State.finished_tickBoundary ⟨ha, hj⟩ t0 t1, rfl, rfl, rfl,
    Env.advanceTo_now t1 _, rfl, held.placed_squareX_toNat, held.placed_squareY_toNat hw,
    held.placed.finished_dutyX_toNat hw t0 t1, held.placed.finished_dutyY_toNat hw t0 t1, ?_,
    rfl, rfl, rfl, rfl, rfl, rfl, rfl⟩
  exact List.append_assoc s.out _ _

/-- Settles O59: the second samples replace the first after the position is handed over. -/
theorem tickWithResampling : Obligations.TickWithResampling := by
  intro s ax ay bx bY t0 t1 hw hresample hb hdelay
  obtain ⟨hph, ha, hj⟩ := State.tickBoundary_iff.1 hb
  have run := runTrace_tick2 hw ha hj hph hresample ax ay bx bY hdelay
  let held := s.sampled ax ay 2
  let again := held.placed.sampled bx bY 9
  refine ⟨again.finished t0 t1, run, State.finished_tickBoundary ⟨ha, hj⟩ t0 t1, rfl, rfl, rfl,
    held.placed_squareX_toNat, held.placed_squareY_toNat hw, again.finished_dutyX_toNat hw t0 t1,
    again.finished_dutyY_toNat hw t0 t1, ?_⟩
  exact List.append_assoc s.out _ _

section Legality

variable {s t : State}

/-! ### When a pseudo-operation is legal (R67) -/

theorem legal_tick_iff (c : Config) (ax ay : Sample) (t0 t1 : Stamp) :
    (Pseudo.tick ax ay t0 t1).legal c = true ↔ c.resamplePwm = false ∧ 50000 ≤ (t1 - t0).toNat := by
  rw [Pseudo.legal, Bool.and_eq_true, Bool.not_eq_true', delayPassed_iff]
  rfl

theorem legal_tick2_iff (c : Config) (ax ay bx bY : Sample) (t0 t1 : Stamp) :
    (Pseudo.tick2 ax ay bx bY t0 t1).legal c = true ↔ c.resamplePwm = true ∧ 50000 ≤ (t1 - t0).toNat := by
  rw [Pseudo.legal, Bool.and_eq_true, delayPassed_iff]
  rfl

theorem State.runPseudo_eq_none_of_not_legal {p : Pseudo} (h : ¬p.legal s.cfg = true) : s.runPseudo p = none :=
  if_neg h

/-- A trace that begins with SMPX begins at a tick boundary, in a well-formed configuration. -/
theorem tickBoundary_of_runTrace_smpx {adc : Option Sample} {now : Option Stamp} {ls : List TraceLine}
    (h : State.runTrace (.op .smpx adc now :: ls) s = some t) :
    s.cfg.wellFormed = true ∧ s.tickBoundary = true := by
  obtain ⟨u, hline, -⟩ := runTrace_cons_iff.1 h
  obtain ⟨-, henabled, hw, -⟩ := traceStep_op_iff.1 hline
  obtain ⟨ha, hj, hph⟩ := (State.enables_seq_iff rfl).1 henabled
  exact ⟨hw, State.tickBoundary_iff.2 ⟨(Code.seq.inj hph).symm, ha, hj⟩⟩

/-- A pseudo-operation whose lines begin with SMPX and run from every tick boundary where it may be written is legal
exactly there. -/
theorem runPseudo_smpx_iff {p : Pseudo} {adc : Option Sample} {now : Option Stamp} {ls : List TraceLine} {u : State}
    (hlines : p.lines = .op .smpx adc now :: ls)
    (hwhole : s.cfg.wellFormed = true → s.tickBoundary = true → p.legal s.cfg = true →
      State.runTrace p.lines s = some u) :
    s.runPseudo p = some t ↔
      (s.cfg.wellFormed = true ∧ s.tickBoundary = true ∧ p.legal s.cfg = true) ∧ u = t := by
  rw [State.runPseudo_iff]
  constructor
  · rintro ⟨hlegal, hrun⟩
    obtain ⟨hw, hb⟩ := tickBoundary_of_runTrace_smpx (hlines ▸ hrun)
    exact ⟨⟨hw, hb, hlegal⟩, Option.some.inj ((hwhole hw hb hlegal).symm.trans hrun)⟩
  · rintro ⟨⟨hw, hb, hlegal⟩, rfl⟩
    exact ⟨hlegal, hwhole hw hb hlegal⟩

theorem runPseudo_tick_iff (ax ay : Sample) (t0 t1 : Stamp) :
    s.runPseudo (.tick ax ay t0 t1) = some t ↔
      (s.cfg.wellFormed = true ∧ s.cfg.resamplePwm = false ∧ s.tickBoundary = true ∧
          50000 ≤ (t1 - t0).toNat) ∧
        (s.sampled ax ay 2).placed.finished t0 t1 = t := by
  rw [runPseudo_smpx_iff rfl, legal_tick_iff, and_left_comm (a := s.tickBoundary = true)]
  intro hw hb hlegal
  obtain ⟨hph, ha, hj⟩ := State.tickBoundary_iff.1 hb
  obtain ⟨hresample, hdelay⟩ := (legal_tick_iff ..).1 hlegal
  exact runTrace_tick hw ha hj hph hresample ax ay hdelay

theorem runPseudo_tick2_iff (ax ay bx bY : Sample) (t0 t1 : Stamp) :
    s.runPseudo (.tick2 ax ay bx bY t0 t1) = some t ↔
      (s.cfg.wellFormed = true ∧ s.cfg.resamplePwm = true ∧ s.tickBoundary = true ∧ 50000 ≤ (t1 - t0).toNat) ∧
        ((s.sampled ax ay 2).placed.sampled bx bY 9).finished t0 t1 = t := by
  rw [runPseudo_smpx_iff rfl, legal_tick2_iff, and_left_comm (a := s.tickBoundary = true)]
  intro hw hb hlegal
  obtain ⟨hph, ha, hj⟩ := State.tickBoundary_iff.1 hb
  obtain ⟨hresample, hdelay⟩ := (legal_tick2_iff ..).1 hlegal
  exact runTrace_tick2 hw ha hj hph hresample ax ay bx bY hdelay

/-! ### Presses (R67, R100, R105, R137) -/

/-- What a press of a line leaves: its latch set, then served with the counter at `now`. -/
def State.pressed (l : Line) (now : Stamp) (s : State) : State :=
  effect l.service ((s.setPending l true).withInputs l.service none (some now))

/-- A press is legal where the line may be served next once its latch is set. -/
theorem runPseudo_press_iff (l : Line) (now : Stamp) :
    s.runPseudo (l.press now) = some t ↔
      (s.cfg.wellFormed = true ∧ (s.pending l.other = false ∨ s.cfg.irqPriority ≠ l.other.first)) ∧
        s.pressed l now = t := by
  have enabled : (s.setPending l true).enables l.service = true ↔
      s.pending l.other = false ∨ s.cfg.irqPriority ≠ l.other.first := by
    rw [State.enables_service_iff]
    cases l <;> simp [Line.other]
  have legal : (l.press now).legal s.cfg = true := by cases l <;> rfl
  have lines : (l.press now).lines = [l.edge, .op l.service none (some now)] := by cases l <;> rfl
  have inputs : (TraceLine.op l.service none (some now)).wellFormed = true := by cases l <;> rfl
  have cfg : (s.setPending l true).cfg = s.cfg := by cases l <;> rfl
  rw [State.runPseudo_iff, lines]
  constructor
  · rintro ⟨-, hrun⟩
    obtain ⟨u, hedge, hrest⟩ := runTrace_cons_iff.1 hrun
    obtain ⟨hw, rfl⟩ := (traceStep_edge_iff l).1 hedge
    obtain ⟨v, hserve, hend⟩ := runTrace_cons_iff.1 hrest
    obtain ⟨-, hnext, -, hleft⟩ := traceStep_op_iff.1 hserve
    exact ⟨⟨hw, enabled.1 hnext⟩, hleft.trans (Option.some.inj hend)⟩
  · rintro ⟨⟨hw, hnext⟩, rfl⟩
    have hserve := traceStep_op_iff.2 ⟨inputs, enabled.2 hnext, cfg ▸ hw, rfl⟩
    exact ⟨legal, runTrace_cons_iff.2
      ⟨_, (traceStep_edge_iff l).2 ⟨hw, rfl⟩, runTrace_cons_iff.2 ⟨_, hserve, rfl⟩⟩⟩

/-- A service clears its own latch and leaves the other (R105, R139). -/
theorem effect_service_pending (l : Line) (s : State) :
    (effect l.service s).pending l = false ∧ (effect l.service s).pending l.other = s.pending l.other := by
  cases l with
  | a => exact ⟨rfl, bool_toNat_inj.1 (effect_regVal_of_notMem (i := .irqa) (r := .irqPendJ) s (by decide))⟩
  | j => exact ⟨rfl, bool_toNat_inj.1 (effect_regVal_of_notMem (i := .irqj) (r := .irqPendA) s (by decide))⟩

theorem State.pressed_pending (l : Line) (now : Stamp) (s : State) :
    (s.pressed l now).pending l = false ∧ (s.pressed l now).pending l.other = s.pending l.other := by
  obtain ⟨own, other⟩ := effect_service_pending l ((s.setPending l true).withInputs l.service none (some now))
  exact ⟨own, other.trans (by cases l <;> rfl)⟩

/-- What answers one state under a condition answers something exactly under it, and only what that state satisfies. -/
theorem answers_exactly {r : Option State} {legal : Prop} {u : State} {post : State → Prop}
    (h : ∀ t, r = some t ↔ legal ∧ u = t) (hpost : legal → post u) :
    ((∃ t, r = some t) ↔ legal) ∧ ∀ t, r = some t → post t := by
  refine ⟨⟨fun ⟨t, ht⟩ => ((h t).1 ht).1, fun hl => ⟨u, (h u).2 ⟨hl, rfl⟩⟩⟩, fun t ht => ?_⟩
  obtain ⟨hl, rfl⟩ := (h t).1 ht
  exact hpost hl

end Legality

/-! ### The statement on pseudo-operations -/

/-- Settles O60: each pseudo-operation answers one known state, under the condition the statement gives. -/
theorem pseudoOperationsAreLegalExactly : Obligations.PseudoOperationsAreLegalExactly := by
  refine ⟨fun s ax ay t0 t1 => answers_exactly (fun _ => runPseudo_tick_iff ax ay t0 t1) ?_,
    fun s ax ay bx bY t0 t1 => answers_exactly (fun _ => runPseudo_tick2_iff ax ay bx bY t0 t1) ?_,
    fun s ax ay bx bY t0 t1 hshort => ⟨?_, ?_⟩,
    fun s now => answers_exactly (fun _ => runPseudo_press_iff .a now) fun _ => s.pressed_pending .a now,
    fun s now => answers_exactly (fun _ => runPseudo_press_iff .j now) fun _ => s.pressed_pending .j now⟩
  · rintro ⟨-, -, hb, -⟩
    exact State.finished_tickBoundary (State.tickBoundary_iff.1 hb).2 t0 t1
  · rintro ⟨-, -, hb, -⟩
    exact State.finished_tickBoundary (State.tickBoundary_iff.1 hb).2 t0 t1
  · exact State.runPseudo_eq_none_of_not_legal fun h => hshort.not_ge ((legal_tick_iff ..).1 h).2
  · exact State.runPseudo_eq_none_of_not_legal fun h => hshort.not_ge ((legal_tick2_iff ..).1 h).2

end Sys2Proof.Machine
end

section
/-! PROOFS. The analog sampler (spec/40_analog_sampler.md): each of the four operations is one conversion of its axis's
channel (R70) and a move to the next phase (R71 to R74). -/

namespace Sys2Proof.Machine

open Sys2Proof

/-! ### One conversion of an axis's channel -/

/-- Selecting the channel first makes the answer the one for that channel, whatever `adc_sel` held (R70). -/
theorem State.takeX_eq (s : State) :
    s.takeX = { s with
      adcSel := s.chanX
      rawX := (s.env.adcRead s.chanX).1
      env := (s.env.adcRead s.chanX).2 } := by
  rw [State.takeX, State.sample_fst, State.sample_snd]

theorem State.takeY_eq (s : State) :
    s.takeY = { s with
      adcSel := s.chanY
      rawY := (s.env.adcRead s.chanY).1
      env := (s.env.adcRead s.chanY).2 } := by
  rw [State.takeY, State.sample_fst, State.sample_snd]

/-! ### The statements -/

/-- Settles O15: the effect of SMPX is one conversion of the X channel, then phase 1. -/
theorem smpxSamplesX : Obligations.SmpxSamplesX :=
  ⟨decode_encode .smpx, fun s hw => exec_eq_next_iff.2 ⟨hw, congrArg (State.goto 1) s.takeX_eq⟩⟩

/-- Settles O16: the effect of SMPY is one conversion of the Y channel, then phase 2. -/
theorem smpySamplesY : Obligations.SmpySamplesY :=
  ⟨decode_encode .smpy, fun s hw => exec_eq_next_iff.2 ⟨hw, congrArg (State.goto 2) s.takeY_eq⟩⟩

/-- Settles O17: the effect of RSMX is one conversion of the X channel, then phase 8. -/
theorem rsmxSamplesXAgain : Obligations.RsmxSamplesXAgain :=
  ⟨decode_encode .rsmx, fun s hw => exec_eq_next_iff.2 ⟨hw, congrArg (State.goto 8) s.takeX_eq⟩⟩

/-- Settles O18: the effect of RSMY is one conversion of the Y channel, then phase 9. -/
theorem rsmySamplesYAgain : Obligations.RsmySamplesYAgain :=
  ⟨decode_encode .rsmy, fun s hw => exec_eq_next_iff.2 ⟨hw, congrArg (State.goto 9) s.takeY_eq⟩⟩

end Sys2Proof.Machine
end

section
/-! PROOFS. The coordinate mapper (spec/41_coordinate_mapper.md): what `map` computes (R80, R81), the two mapping and
the two clamping operations (R82 to R86). -/

namespace Sys2Proof.Machine

open Sys2Proof

/-! ### The scaled offset (R80)

Below the centre and from it on `mapped` is one rounded quotient with a positive divisor each, and such a quotient is
monotone. The two rails are exact, so monotonicity bounds everything between them. -/

theorem coordMapped_of_lt {raw center : Int} (h : raw < center) (smax : Int) :
    coordMapped raw center smax = Int.tdiv ((raw - center) * Int.tdiv smax 2) center + Int.tdiv smax 2 :=
  if_pos (by omega)

theorem coordMapped_of_ge {raw center : Int} (h : center ≤ raw) (smax : Int) :
    coordMapped raw center smax = Int.tdiv ((raw - center) * Int.tdiv smax 2) (4095 - center) + Int.tdiv smax 2 :=
  if_neg (by omega)

theorem coordMapped_centre (center smax : Int) : coordMapped center center smax = Int.tdiv smax 2 := by
  simp [coordMapped_of_ge le_rfl]

section Scaling

variable {raw raw' center smax : Int} (hlo : 0 < center) (hhi : center < 4095) (hs : 0 ≤ smax)

include hlo in
theorem coordMapped_low_rail : coordMapped 0 center smax = 0 := by
  rw [coordMapped_of_lt hlo, zero_sub, neg_mul, Int.neg_tdiv, Int.mul_tdiv_cancel_left _ hlo.ne', neg_add_cancel]

include hhi in
theorem coordMapped_high_rail : coordMapped 4095 center smax = 2 * Int.tdiv smax 2 := by
  rw [coordMapped_of_ge hhi.le, Int.mul_tdiv_cancel_left _ (sub_pos.2 hhi).ne', two_mul]

include hs

theorem half_nonneg : 0 ≤ Int.tdiv smax 2 := Int.tdiv_nonneg hs (by decide)

theorem two_mul_half_le : 2 * Int.tdiv smax 2 ≤ smax := Int.mul_tdiv_self_le hs

/-- The numerator of the scaled offset is monotone in the sample. -/
theorem scaled_offset_le (h : raw ≤ raw') :
    (raw - center) * Int.tdiv smax 2 ≤ (raw' - center) * Int.tdiv smax 2 :=
  mul_le_mul_of_nonneg_right (by omega) (half_nonneg hs)

include hlo in
theorem coordMapped_le_half (h : raw < center) : coordMapped raw center smax ≤ Int.tdiv smax 2 := by
  have quotient_le := Int.tdiv_le_tdiv hlo (scaled_offset_le (center := center) hs h.le)
  rw [sub_self, zero_mul, Int.zero_tdiv] at quotient_le
  rw [coordMapped_of_lt h]
  omega

include hhi in
theorem half_le_coordMapped (h : center ≤ raw) : Int.tdiv smax 2 ≤ coordMapped raw center smax := by
  have quotient_ge : 0 ≤ Int.tdiv ((raw - center) * Int.tdiv smax 2) (4095 - center) :=
    Int.tdiv_nonneg (mul_nonneg (by omega) (half_nonneg hs)) (by omega)
  rw [coordMapped_of_ge h]
  omega

include hlo hhi

/-- Each side is monotone, and half of the range lies between the sides. -/
theorem coordMapped_mono (h : raw ≤ raw') : coordMapped raw center smax ≤ coordMapped raw' center smax := by
  rcases lt_or_ge raw' center with below' | above'
  · rw [coordMapped_of_lt (h.trans_lt below'), coordMapped_of_lt below']
    exact Int.add_le_add_right (Int.tdiv_le_tdiv hlo (scaled_offset_le hs h)) _
  rcases lt_or_ge raw center with below | above
  · exact (coordMapped_le_half hlo hs below).trans (half_le_coordMapped hhi hs above')
  · rw [coordMapped_of_ge above, coordMapped_of_ge above']
    exact Int.add_le_add_right (Int.tdiv_le_tdiv (by omega) (scaled_offset_le hs h)) _

/-- Between the rails the scaled offset is in range, so the final clamp changes nothing (R81 (d)). -/
theorem coordMap_eq_coordMapped (hraw : 0 ≤ raw) (hmax : raw ≤ 4095) :
    coordMap raw center smax = coordMapped raw center smax := by
  have nonneg : 0 ≤ coordMapped raw center smax :=
    (coordMapped_low_rail hlo).symm.le.trans (coordMapped_mono hlo hhi hs hraw)
  have in_range : coordMapped raw center smax ≤ smax :=
    ((coordMapped_mono hlo hhi hs hmax).trans_eq (coordMapped_high_rail hhi)).trans (two_mul_half_le hs)
  rw [coordMap, clamp, max_eq_left nonneg, min_eq_left in_range]

theorem coordMap_mono (hraw : 0 ≤ raw) (h : raw ≤ raw') (hmax : raw' ≤ 4095) :
    coordMap raw center smax ≤ coordMap raw' center smax := by
  rw [coordMap_eq_coordMapped hlo hhi hs hraw (h.trans hmax), coordMap_eq_coordMapped hlo hhi hs (hraw.trans h) hmax]
  exact coordMapped_mono hlo hhi hs h

end Scaling

/-! ### The statements on `map` -/

/-- Settles O5: the clamp changes nothing, and the scaled offset is the quotient of its side. -/
theorem mapIsScaledOffset : Obligations.MapIsScaledOffset := by
  intro raw center smax hraw hmax hlo hhi hs
  rw [coordMap_eq_coordMapped hlo hhi hs hraw hmax]
  split
  case isTrue below => exact coordMapped_of_lt below smax
  case isFalse above => exact coordMapped_of_ge (not_lt.1 above) smax

/-- Settles O6: the range is the clamp's, and at the centre the offset is 0. -/
theorem mapRangeAndCentre : Obligations.MapRangeAndCentre := by
  intro raw center smax _ _ hlo hhi hs
  obtain ⟨nonneg, le_smax⟩ := coordMap_range hs raw center
  refine ⟨nonneg, le_smax, ?_⟩
  rw [coordMap_eq_coordMapped hlo hhi hs hlo.le hhi.le, coordMapped_centre]

/-- Settles O7: at a rail the offset is the whole rail distance, which divides exactly. -/
theorem mapRails : Obligations.MapRails := by
  intro center smax hlo hhi hs
  rw [coordMap_eq_coordMapped hlo hhi hs le_rfl (by decide), coordMap_eq_coordMapped hlo hhi hs (by decide) le_rfl]
  exact ⟨coordMapped_low_rail hlo, coordMapped_high_rail hhi⟩

/-- Settles O8. -/
theorem mapMonotone : Obligations.MapMonotone :=
  fun _ _ _ _ hraw h hmax hlo hhi hs => coordMap_mono hlo hhi hs hraw h hmax

/-- Settles O9: `map` is monotone, so its values at the two ends of the band and just outside them decide. -/
theorem mapMiddleBand : Obligations.MapMiddleBand := by
  intro raw hraw hmax
  have below : coordMap 1906 1939 119 = 58 := by decide
  have first : coordMap 1907 1939 119 = 59 := by decide
  have last : coordMap 1975 1939 119 = 59 := by decide
  have above : coordMap 1976 1939 119 = 60 := by decide
  have mono : ∀ {a b : Int}, 0 ≤ a → a ≤ b → b ≤ 4095 → coordMap a 1939 119 ≤ coordMap b 1939 119 :=
    coordMap_mono (by decide) (by decide) (by decide)
  constructor
  · intro middle
    constructor <;> by_contra outside
    · have low := mono hraw (show raw ≤ 1906 by omega) (by decide)
      omega
    · have high := mono (by decide) (show 1976 ≤ raw by omega) hmax
      omega
  · rintro ⟨hfirst, hlast⟩
    have low := mono (by decide) hfirst hmax
    have high := mono hraw hlast (by decide)
    omega

/-! ### The position an operation of the mapper writes (R82 to R86) -/

theorem borderClamp_eq (dim : Int) (thick : Bool) (v : Int) :
    borderClamp dim thick v =
      min (max v (if thick then 3 else 1)) (dim - 8 - (if thick then 3 else 1)) := by
  cases thick <;> rfl

/-- On a screen of at least 14 pixels the clamp's interval is not empty, so a clamped coordinate is in it (R84, R88). -/
theorem clamped_in_interval {dim old new : Nat} {thick : Bool} (hdim : 14 ≤ dim)
    (h : (new : Int) = borderClamp dim thick old) :
    (if thick then 3 else 1) ≤ new ∧ new ≤ dim - 8 - (if thick then 3 else 1) := by
  rw [borderClamp_eq] at h
  cases thick <;> simp only [Bool.false_eq_true, if_true, if_false] at h ⊢ <;> omega

theorem State.clampedX_fits (s : State) : ((BitVec.ofInt 8 s.clampedX).toNat : Int) = s.clampedX :=
  borderClamp_fits (by decide) (by decide) _ _

theorem State.clampedY_fits {s : State} (hw : s.cfg.wellFormed = true) :
    ((BitVec.ofInt 8 s.clampedY).toNat : Int) = s.clampedY := by
  obtain ⟨-, -, -, -, -, -, -, h14, h256, -⟩ := s.cfg.wellFormed_iff.1 hw
  exact borderClamp_fits (by omega) (by omega) _ _

/-! ### The statements on the operations -/

/-- Settles O20: the effect of MAPX narrows the mapped coordinate without loss. -/
theorem mapxMapsX : Obligations.MapxMapsX :=
  ⟨decode_encode .mapx, fun _ hw => ⟨_, exec_eq_next_iff.2 ⟨hw, rfl⟩, State.mappedX_fits hw⟩⟩

/-- Settles O21: the effect of MAPY narrows the reflected coordinate without loss. -/
theorem mapyMapsY : Obligations.MapyMapsY :=
  ⟨decode_encode .mapy, fun _ hw => ⟨_, exec_eq_next_iff.2 ⟨hw, rfl⟩, State.mappedY_fits hw⟩⟩

/-- Settles O22: the effect of CLPX narrows the clamped coordinate without loss. -/
theorem clpxClampsX : Obligations.ClpxClampsX :=
  ⟨decode_encode .clpx, fun s hw => ⟨_, exec_eq_next_iff.2 ⟨hw, rfl⟩,
    s.clampedX_fits.trans (borderClamp_eq _ _ _), clamped_in_interval (dim := 128) (by decide) s.clampedX_fits⟩⟩

/-- Settles O23: the effect of CLPY narrows the clamped coordinate without loss. -/
theorem clpyClampsY : Obligations.ClpyClampsY := by
  refine ⟨decode_encode .clpy, fun s hw => ?_⟩
  obtain ⟨-, -, -, -, -, -, -, h14, -⟩ := s.cfg.wellFormed_iff.1 hw
  have fits := State.clampedY_fits hw
  exact ⟨_, exec_eq_next_iff.2 ⟨hw, rfl⟩, fits.trans (borderClamp_eq _ _ _), clamped_in_interval h14 fits⟩

end Sys2Proof.Machine
end

section
/-! PROOFS. The scene invariant (R12, R17, R20, R21, R88, R120): every step of the block or the environment keeps it.
The phase and the position are followed through the sequence of operations; the other parts hold of every operation. -/

namespace Sys2Proof.Machine

open Sys2Proof

section Scene

variable {s : State} {i : Instr}

/-! ### What the block's turn runs -/

/-- The block's next operation is the phase's, with the state as it is, or a service, with at most the environment
changed by a pick (R105, R120, R121, R137). -/
theorem fetched_cases (h : decode s.fetch.1 = .ok i) :
    (encode i = .seq s.ph ∧ s.fetch.2 = s) ∨ (i.agent = .disp ∧ ∃ e, s.fetch.2 = { s with env := e }) := by
  by_cases latched : s.irqPendA = true ∨ s.irqPendJ = true
  · obtain ⟨l, e, fetched, -⟩ := State.fetch_irq latched
    rw [fetched] at h
    refine .inr ⟨?_, e, congrArg Prod.snd fetched⟩
    cases l <;> cases h <;> rfl
  · obtain ⟨ha, hj⟩ := not_or.1 latched
    have fetched := State.fetch_seq (Bool.eq_false_iff.2 ha) (Bool.eq_false_iff.2 hj)
    rw [fetched] at h
    exact .inl ⟨encode_of_decode h, congrArg Prod.snd fetched⟩

/-! ### The phase an operation leaves (R17, R120) -/

/-- The phase part of `SceneInv`. -/
structure PhaseReached (c : Config) (ph : Phase) : Prop where
  legal : ph.toNat < 14
  resample : c.resamplePwm = false → ph ≠ 7 ∧ ph ≠ 8

theorem State.afterRender_cases (s : State) :
    (s.cfg.resamplePwm = true ∧ s.afterRender = 7) ∨ (s.cfg.resamplePwm = false ∧ s.afterRender = 9) := by
  cases h : s.cfg.resamplePwm <;> simp [State.afterRender, h]

/-- RNDR enters phase 7 under RESAMPLE_PWM alone, and RSMX, which enters phase 8, runs at phase 7. -/
theorem effect_phaseReached (h : PhaseReached s.cfg s.ph) (hcode : encode i = .seq s.ph) :
    PhaseReached s.cfg (effect i s).ph := by
  cases i with
  | rndr =>
    change PhaseReached s.cfg s.afterRender
    rcases s.afterRender_cases with ⟨on, next⟩ | ⟨-, next⟩ <;> rw [next]
    · exact ⟨by decide, fun off => absurd (on.symm.trans off) (by decide)⟩
    · exact ⟨by decide, fun _ => by decide⟩
  | rsmx => exact ⟨by simp [effect], fun off => absurd (Code.seq.inj hcode).symm (h.resample off).1⟩
  | dlyw =>
    change PhaseReached s.cfg (if delayPassed s.now s.tMark then 0 else 13)
    split <;> exact ⟨by decide, fun _ => by decide⟩
  | irqa | irqj => cases hcode
  | _ => constructor <;> simp [effect]

/-! ### The position an operation leaves (R12, R88) -/

/-- The position part of `SceneInv`, over the numbers that the phase register and the coordinates hold. -/
structure PlacedAt (screenH ph x y : Nat) : Prop where
  xRange : 3 ≤ ph → x ≤ 120
  yRange : 4 ≤ ph → y ≤ screenH - 8
  xClear : 5 ≤ ph → 1 ≤ x ∧ x ≤ 119
  yClear : 6 ≤ ph → 1 ≤ y ∧ y ≤ screenH - 9

/-- The position of a state against its phase. -/
def State.InPosition (s : State) : Prop := PlacedAt s.cfg.screenH s.ph.toNat s.squareX.toNat s.squareY.toNat

/-- Before MAPX nothing is asked of the position (R24). -/
theorem placedAt_of_ph_lt {ph : Nat} (h : ph < 3) (screenH x y : Nat) : PlacedAt screenH ph x y := by
  constructor <;> omega

/-- From the render on nothing more is asked of the position. -/
theorem PlacedAt.of_clamped {screenH ph x y : Nat} (h : PlacedAt screenH ph x y) (hph : 6 ≤ ph) (ph' : Nat) :
    PlacedAt screenH ph' x y := by
  have hx := h.xClear (by omega)
  have hy := h.yClear hph
  constructor <;> omega

/-- Each of the four operations of the mapper establishes what is asked from its next phase on and keeps the rest. -/
theorem effect_inPosition (hw : s.cfg.wellFormed = true) (h : s.InPosition) (hcode : encode i = .seq s.ph) :
    (effect i s).InPosition := by
  obtain ⟨-, -, -, -, -, -, -, h14, -⟩ := s.cfg.wellFormed_iff.1 hw
  cases i with
  | smpx | smpy => exact placedAt_of_ph_lt (by simp [effect]) _ _ _
  | mapx =>
    have hx := State.mappedX_range hw
    rw [← State.mappedX_fits hw] at hx
    change PlacedAt s.cfg.screenH 3 (BitVec.ofInt 8 s.mappedX).toNat s.squareY.toNat
    constructor <;> omega
  | mapy =>
    have hph : s.ph = 3 := (Code.seq.inj hcode).symm
    have hx := h.xRange (by simp [hph])
    have hy := State.mappedY_range hw
    rw [← State.mappedY_fits hw] at hy
    change PlacedAt s.cfg.screenH 4 s.squareX.toNat (BitVec.ofInt 8 s.mappedY).toNat
    constructor <;> omega
  | clpx =>
    have hph : s.ph = 4 := (Code.seq.inj hcode).symm
    have hy := h.yRange (by simp [hph])
    have hx : 1 ≤ s.clampedX ∧ s.clampedX ≤ 119 := borderClamp_range (by decide) _ _
    rw [← s.clampedX_fits] at hx
    change PlacedAt s.cfg.screenH 5 (BitVec.ofInt 8 s.clampedX).toNat s.squareY.toNat
    constructor <;> omega
  | clpy =>
    have hph : s.ph = 5 := (Code.seq.inj hcode).symm
    have hx := h.xClear (by simp [hph])
    have hy : 1 ≤ s.clampedY ∧ s.clampedY ≤ s.cfg.screenH - 9 := borderClamp_range (by omega) _ _
    rw [← State.clampedY_fits hw] at hy
    change PlacedAt s.cfg.screenH 6 s.squareX.toNat (BitVec.ofInt 8 s.clampedY).toNat
    constructor <;> omega
  | irqa | irqj => cases hcode
  | rndr | rsmx | rsmy | pwmx | pwmy | diag | dlys | dlyw =>
    exact PlacedAt.of_clamped h (by rw [← Code.seq.inj hcode]; decide) _

/-! ### The flags and the scenes handed over (R20, R21, R88) -/

theorem fillVariant_notMem_writesOf (i : Instr) : Reg.fillVariant ∉ writesOf i := by
  cases i <;> decide

theorem effect_fillVariant (i : Instr) (s : State) : (effect i s).fillVariant = s.fillVariant :=
  bool_toNat_inj.1 (effect_regVal_of_notMem s (fillVariant_notMem_writesOf i))

/-- IRQJ toggles the indicator and the thickness together or neither; no other operation writes one of them (R21). -/
theorem effect_indicator (i : Instr) (h : s.ind = s.borderThick) : (effect i s).ind = (effect i s).borderThick := by
  cases i with
  | irqj =>
    change s.serveJ.ind = s.serveJ.borderThick
    rw [State.serveJ_ind, State.serveJ_borderThick, h]
  | irqa =>
    have ind := bool_toNat_inj.1 (effect_regVal_of_notMem (i := .irqa) (r := .ind) s (by decide))
    have thick := bool_toNat_inj.1 (effect_regVal_of_notMem (i := .irqa) (r := .borderThick) s (by decide))
    exact (ind.trans h).trans thick.symm
  | _ => exact h

/-- RNDR is the only operation that emits a scene, and its scene is the position held (R115). -/
theorem render_mem_emitted {x y : Coord} {thick fill : Bool} (h : OutEvent.render x y thick fill ∈ s.emitted i) :
    i = .rndr ∧ x = s.squareX ∧ y = s.squareY := by
  cases i with
  | rndr =>
    obtain ⟨hx, hy, -⟩ := OutEvent.render.inj (List.mem_singleton.1 h)
    exact ⟨rfl, hx, hy⟩
  | diag => cases List.mem_singleton.1 h
  | _ => cases h

theorem effect_rendersClear (h : s.rendersClear)
    (hscene : i = .rndr → clearOfOuterFrame s.cfg.screenH s.squareX s.squareY) : (effect i s).rendersClear := by
  intro x y thick fill hmem
  rw [effect_cfg]
  rw [effect_out] at hmem
  rcases List.mem_append.1 hmem with before | now
  · exact h x y thick fill before
  · obtain ⟨hrndr, rfl, rfl⟩ := render_mem_emitted now
    exact hscene hrndr

/-! ### The invariant through a step -/

namespace SceneInv

theorem phaseReached (h : SceneInv s) : PhaseReached s.cfg s.ph := ⟨h.phase, h.resample⟩

theorem inPosition (h : SceneInv s) : s.InPosition := ⟨h.xRange, h.yRange, h.xClear, h.yClear⟩

/-- The invariant says nothing of the environment's data. -/
theorem with_env (h : SceneInv s) (e : Env) : SceneInv { s with env := e } := { h with }

/-- The invariant says nothing of the latches. -/
theorem with_pending (h : SceneInv s) (l : Line) (b : Bool) : SceneInv (s.setPending l b) := by
  cases l <;> exact { h with }

/-- The values of reset, under any well-formed configuration and in any environment (R155). -/
theorem at_initial {c : Config} (hw : c.wellFormed = true) (e : Env) : SceneInv (State.initial c e) where
  configured := hw
  phase := by simp [State.initial]
  resample := by simp [State.initial]
  xRange := by simp [State.initial]
  yRange := by simp [State.initial]
  xClear := by simp [State.initial]
  yClear := by simp [State.initial]
  indicator := rfl
  fill := rfl
  renders _ _ _ _ hmem := absurd hmem List.not_mem_nil

theorem after_event (h : SceneInv s) (e : EnvEvent) : SceneInv (s.onEvent e) := by
  cases e with
  | edga => exact h.with_pending .a true
  | edgj => exact h.with_pending .j true
  | time us => exact h.with_env _
  | rst => exact at_initial h.configured s.env

/-- An operation keeps the invariant where it leaves a reached phase and the position that phase asks for, and where a
scene it hands over is clear. -/
theorem of_effect (h : SceneInv s) (hphase : PhaseReached s.cfg (effect i s).ph)
    (hplaced : (effect i s).InPosition)
    (hscene : i = .rndr → clearOfOuterFrame s.cfg.screenH s.squareX s.squareY) : SceneInv (effect i s) where
  configured := effect_cfg i s ▸ h.configured
  phase := hphase.legal
  resample := effect_cfg i s ▸ hphase.resample
  xRange := hplaced.xRange
  yRange := hplaced.yRange
  xClear := hplaced.xClear
  yClear := hplaced.yClear
  indicator := effect_indicator i h.indicator
  fill := by rw [effect_fillVariant, effect_cfg, h.fill]
  renders := effect_rendersClear h.renders hscene

/-- The sequencer's operation of the phase: at RNDR, phase 6, both clamps are behind it. -/
theorem after_sequencer (h : SceneInv s) (hcode : encode i = .seq s.ph) : SceneInv (effect i s) := by
  refine h.of_effect (effect_phaseReached h.phaseReached hcode)
    (effect_inPosition h.configured h.inPosition hcode) ?_
  rintro rfl
  have hph : s.ph = 6 := (Code.seq.inj hcode).symm
  obtain ⟨xlo, xhi⟩ := h.xClear (by simp [hph])
  exact ⟨xlo, xhi, h.yClear (by simp [hph])⟩

/-- A service, at any phase: the dispatcher writes neither the phase nor the position (R141). -/
theorem after_service (h : SceneInv s) (hdisp : i.agent = .disp) : SceneInv (effect i s) := by
  obtain ⟨-, kept⟩ := contextsWriteApart i s (effect i s) (exec_eq_next_iff.2 ⟨h.configured, rfl⟩)
  obtain ⟨hph, -, -, hx, hy, -⟩ := kept hdisp
  refine h.of_effect (hph ▸ h.phaseReached) ?_ ?_
  · rw [State.InPosition, effect_cfg, hph, hx, hy]
    exact h.inPosition
  · rintro rfl
    cases hdisp

end SceneInv

end Scene

/-! ### The statement -/

/-- Settles O50: the step is an event of the environment, the sequencer's operation of the phase, or a service. -/
theorem sceneInvKept : Obligations.SceneInvKept := by
  intro s t h hstep
  have held : SceneInv s.takeTurn.2 := h.with_env _
  obtain ⟨-, ⟨e, -, rfl⟩ | ⟨i, -, hdecode, hexec⟩⟩ := step_cases hstep
  · exact held.after_event e
  · obtain ⟨-, rfl⟩ := exec_eq_next_iff.1 hexec
    rcases fetched_cases hdecode with ⟨hcode, fetched⟩ | ⟨hdisp, e, fetched⟩ <;> rw [fetched]
    · exact held.after_sequencer hcode
    · exact (held.with_env e).after_service hdisp

end Sys2Proof.Machine
end

section
/-! PROOFS. The PWM duty mapper (spec/42_brightness_mapper.md): what `brightness` computes (R90 to R92), the two
operations that apply it (R93, R94). -/

namespace Sys2Proof.Machine

open Sys2Proof

/-! ### The duty of one side (R90, R91)

On each side of the centre the duty is a function of the distance from the centre and of the side's travel, the distance
to its rail. The deadzone is a distance beyond the deadzone of 0; at the guard the divisor is 0, and `Int.tdiv` by 0 is
the 0 that the guard answers. -/

/-- The duty at the distance `d` from the centre on a side of travel `m`; `brightness_of_ge` and `brightness_of_le` tie
it to `brightness`. -/
def sideDuty (d m : Int) : Int := tdiv (max (d - 40) 0 * 65535) (m - 40)

section SideDuty

variable {d d' m : Int}

theorem sideDuty_of_ge (h : 40 ≤ d) : sideDuty d m = Int.tdiv ((d - 40) * 65535) (m - 40) := by
  rw [sideDuty, max_eq_left (by omega), tdiv]

theorem sideDuty_of_le (h : d ≤ 40) : sideDuty d m = 0 := by
  rw [sideDuty, max_eq_right (by omega), zero_mul, tdiv, Int.zero_tdiv]

theorem sideDuty_guarded (d : Int) : sideDuty d 40 = 0 := Int.tdiv_zero _

/-- The guard of R91 around the quotient changes nothing. -/
theorem sideDuty_eq_guarded (h : 40 ≤ d) :
    sideDuty d m = if m - 40 = 0 then 0 else tdiv ((d - 40) * 65535) (m - 40) := by
  split
  case isTrue guard => rw [sub_eq_zero.1 guard, sideDuty_guarded]
  case isFalse => exact sideDuty_of_ge h

theorem sideDuty_rail (h : 40 < m) : sideDuty m m = 65535 := by
  rw [sideDuty_of_ge h.le, Int.mul_tdiv_cancel_left _ (by omega)]

theorem sideDuty_mono (hm : 40 < m) (h : d ≤ d') : sideDuty d m ≤ sideDuty d' m := by
  have travelled : max (d - 40) 0 ≤ max (d' - 40) 0 := by omega
  exact Int.tdiv_le_tdiv (by omega) (by omega)

theorem sideDuty_range (h : d ≤ m) : 0 ≤ sideDuty d m ∧ sideDuty d m ≤ 65535 := by
  rcases lt_or_ge 40 m with room | tight
  · exact tdiv_share_range (by omega) (by omega) (by omega)
  · rw [sideDuty_of_le (h.trans tight)]
    decide

/-- Short of the rail the quotient is short of full by the missing share of the travel. -/
theorem sideDuty_eq_full_iff (hm : 40 < m) (h : d ≤ m) : sideDuty d m = 65535 ↔ d = m := by
  constructor
  · intro full
    have divided := Int.mul_tdiv_self_le (x := max (d - 40) 0 * 65535) (k := m - 40) (by omega)
    rw [← tdiv, ← sideDuty, full] at divided
    omega
  · rintro rfl
    exact sideDuty_rail hm

end SideDuty

/-! ### `brightness` side by side (R90 to R92) -/

section Brightness

variable {raw raw' center : Int}

theorem brightness_disabled (raw center : Int) : brightness raw center false = 0 := rfl

theorem brightness_of_deadzone (hlo : -40 < raw - center) (hhi : raw - center < 40) :
    brightness raw center true = 0 :=
  (if_neg Bool.noConfusion).trans (if_pos ⟨hlo, hhi⟩)

/-- Outside the deadzone the guard and the quotient of R90 are the duty of the sample's side. -/
theorem brightness_of_outside (h : ¬ (-40 < raw - center ∧ raw - center < 40)) :
    brightness raw center true =
      sideDuty |raw - center| (if 0 < raw - center then 4095 - center else center) := by
  have far : 40 ≤ |raw - center| := by
    rw [le_abs]
    omega
  exact (if_neg Bool.noConfusion).trans ((if_neg h).trans (sideDuty_eq_guarded far).symm)

theorem brightness_of_ge (h : center ≤ raw) :
    brightness raw center true = sideDuty (raw - center) (4095 - center) := by
  rcases lt_or_ge (raw - center) 40 with near | far
  · rw [brightness_of_deadzone (by omega) near, sideDuty_of_le near.le]
  · rw [brightness_of_outside (by omega), if_pos (by omega), abs_of_nonneg (by omega)]

theorem brightness_of_le (h : raw ≤ center) : brightness raw center true = sideDuty (center - raw) center := by
  rcases lt_or_ge (center - raw) 40 with near | far
  · rw [brightness_of_deadzone (by omega) (by omega), sideDuty_of_le near.le]
  · rw [brightness_of_outside (by omega), if_neg (by omega), abs_of_nonpos (by omega), neg_sub]

theorem brightness_range_of_any_centre (hraw : 0 ≤ raw) (hmax : raw ≤ 4095) (en : Bool) :
    0 ≤ brightness raw center en ∧ brightness raw center en ≤ 65535 := by
  cases en with
  | false =>
    rw [brightness_disabled]
    decide
  | true =>
    rcases le_total center raw with above | below
    · rw [brightness_of_ge above]
      exact sideDuty_range (by omega)
    · rw [brightness_of_le below]
      exact sideDuty_range (by omega)

/-- The duty is full at the end of the travel only, which is a rail on either side. -/
theorem brightness_eq_full_iff (hraw : 0 ≤ raw) (hmax : raw ≤ 4095) (hlo : 40 < center) (hhi : 40 < 4095 - center) :
    brightness raw center true = 65535 ↔ raw = 0 ∨ raw = 4095 := by
  rcases le_total center raw with above | below
  · rw [brightness_of_ge above, sideDuty_eq_full_iff hhi (by omega)]
    omega
  · rw [brightness_of_le below, sideDuty_eq_full_iff hlo (by omega)]
    omega

theorem brightness_mono_above (hhi : 40 < 4095 - center) (hc : center ≤ raw) (h : raw ≤ raw') (en : Bool) :
    brightness raw center en ≤ brightness raw' center en := by
  cases en with
  | false => exact le_rfl
  | true =>
    rw [brightness_of_ge hc, brightness_of_ge (hc.trans h)]
    exact sideDuty_mono hhi (by omega)

theorem brightness_anti_below (hlo : 40 < center) (h : raw ≤ raw') (hc : raw' ≤ center) (en : Bool) :
    brightness raw' center en ≤ brightness raw center en := by
  cases en with
  | false => exact le_rfl
  | true =>
    rw [brightness_of_le hc, brightness_of_le (h.trans hc)]
    exact sideDuty_mono hlo (by omega)

end Brightness

/-! ### The statements on `brightness` -/

/-- Settles O10: the enable, the deadzone, and on either side the guard and the quotient of the side's duty. -/
theorem brightnessFormula : Obligations.BrightnessFormula := by
  intro raw center _ _ _ _
  refine ⟨brightness_disabled raw center, brightness_of_deadzone, fun far guard => ?_, fun far guard => ?_,
    fun far _ => ?_, fun far _ => ?_⟩
  · rw [brightness_of_ge (by omega), guard, sideDuty_guarded]
  · rw [brightness_of_le (by omega), guard, sideDuty_guarded]
  · rw [brightness_of_ge (by omega), sideDuty_of_ge far]
  · rw [brightness_of_le (by omega), sideDuty_of_ge (by omega)]

/-- Settles O11: a distance within the travel is a share of full, and the whole travel is all of it. -/
theorem brightnessRange : Obligations.BrightnessRange := by
  intro raw center en hraw hmax _ _
  obtain ⟨nonneg, le_full⟩ := brightness_range_of_any_centre (center := center) hraw hmax en
  exact ⟨nonneg, le_full, brightness_eq_full_iff hraw hmax⟩

/-- Settles O12: on its own side the duty is monotone in the distance. -/
theorem brightnessMonotone : Obligations.BrightnessMonotone :=
  fun _ _ _ en _ h _ hlo hhi =>
    ⟨fun above => brightness_mono_above hhi above h en, fun below => brightness_anti_below hlo h below en⟩

/-! ### The statements on the operations -/

/-- Settles O25: the effect of PWMX narrows the duty without loss. -/
theorem pwmxAppliesDuty : Obligations.PwmxAppliesDuty := by
  refine ⟨decode_encode .pwmx, fun s hw => ?_⟩
  obtain ⟨hlo, hhi, -⟩ := s.cfg.wellFormed_iff.1 hw
  exact ⟨_, exec_eq_next_iff.2 ⟨hw, rfl⟩, brightness_fits s.rawX hlo hhi s.pwmEnabled, rfl⟩

/-- Settles O26: the effect of PWMY narrows the duty without loss. -/
theorem pwmyAppliesDuty : Obligations.PwmyAppliesDuty := by
  refine ⟨decode_encode .pwmy, fun s hw => ?_⟩
  obtain ⟨-, -, hlo, hhi, -⟩ := s.cfg.wellFormed_iff.1 hw
  exact ⟨_, exec_eq_next_iff.2 ⟨hw, rfl⟩, brightness_fits s.rawY hlo hhi s.pwmEnabled, rfl⟩

end Sys2Proof.Machine
end

section
/-! PROOFS. The edge dispatcher (spec/43_edge_dispatcher.md): the debounce test in true time (R102, R110), the edge
events (R100), the two services (R103, R104), and the debounce of each button in every run without reset (R14). -/

namespace Sys2Proof.Machine

open Sys2Proof

/-! ### The debounce test (R102, R110) -/

/-- Settles O13: less than one wrap apart the counter's difference is the true one. -/
theorem acceptComparesTrueTime : Obligations.AcceptComparesTrueTime := by
  refine ⟨accept_iff, fun T0 T1 hle hwrap => ?_⟩
  rw [accept_iff, elapsed_ofNat hle, Nat.mod_eq_of_lt hwrap]

/-- Settles O14: the difference of the readings drops the whole wraps. -/
theorem acceptAliasesAfterWraps : Obligations.AcceptAliasesAfterWraps := by
  intro T k d hd
  rw [Bool.eq_false_iff, ne_eq, accept_iff, elapsed_ofNat (by omega)]
  omega

/-! ### The edge events (R100, R101) -/

/-- A second edge on a set latch coalesces with the first (R101). -/
theorem State.setPending_of_pending {s : State} {l : Line} {b : Bool} (h : s.pending l = b) :
    s.setPending l b = s := by
  subst h
  cases l <;> rfl

/-- Settles O41: a listed edge is its whole step, the write of its latch. -/
theorem edgeEventsSetLatches : Obligations.EdgeEventsSetLatches := by
  intro s rest hw
  refine ⟨fun hturns => ?_, fun hturns => ?_⟩ <;> have edge := step_of_listed_event hw hturns
  · exact ⟨edge, fun hset => edge.trans (congrArg _ (State.setPending_of_pending (l := .a) hset))⟩
  · exact ⟨edge, fun hset => edge.trans (congrArg _ (State.setPending_of_pending (l := .j) hset))⟩

/-! ### The two services (R103, R104, R105) -/

section Services

variable {s : State} {l : Line}

/-- The two lines have different codes (R61). -/
theorem line_code_inj {l l' : Line} (h : l.code = l'.code) : l = l' := by
  cases l <;> cases l' <;> cases h <;> rfl

/-- A line is served only if its latch is set (R105). -/
theorem State.pending_of_fetch (h : s.fetch.1 = l.code) : s.pending l = true := by
  by_cases latched : s.irqPendA = true ∨ s.irqPendJ = true
  · obtain ⟨l', e, fetched, set, -⟩ := State.fetch_irq latched
    have sameCode : l'.code = l.code := (congrArg Prod.fst fetched).symm.trans h
    exact line_code_inj sameCode ▸ set
  · obtain ⟨ha, hj⟩ := not_or.1 latched
    rw [State.fetch_seq (Bool.eq_false_iff.2 ha) (Bool.eq_false_iff.2 hj)] at h
    cases l <;> cases h

/-- A latch that is set alone is served next (R105). -/
theorem State.fetch_of_pending_alone (hl : s.pending l = true) (hother : s.pending l.other = false) :
    s.fetch.1 = l.code :=
  congrArg Prod.fst (State.fetch_service hl (.inl hother))

end Services

/-- Settles O30: the service accepts or changes nothing, and then clears its latch. -/
theorem irqaServesButtonA : Obligations.IrqaServesButtonA := by
  refine ⟨decode_encode .irqa, fun s => ⟨State.pending_of_fetch (l := .a), State.fetch_of_pending_alone (l := .a)⟩,
    fun s hw => exec_eq_next_iff.2 ⟨hw, ?_⟩⟩
  rcases s.serveA_cases with ⟨late, served⟩ | ⟨early, served⟩ <;> rw [effect, served]
  · exact (if_pos late).symm
  · exact (if_neg early.not_ge).symm

/-- Settles O31: the service accepts or changes nothing, and then clears its latch. -/
theorem irqjServesJoystickButton : Obligations.IrqjServesJoystickButton := by
  refine ⟨decode_encode .irqj, fun s => ⟨State.pending_of_fetch (l := .j), State.fetch_of_pending_alone (l := .j)⟩,
    fun s hw => exec_eq_next_iff.2 ⟨hw, ?_⟩⟩
  rcases s.serveJ_cases with ⟨late, served⟩ | ⟨early, served⟩ <;> rw [effect, served]
  · exact (if_pos late).symm
  · exact (if_neg early.not_ge).symm

/-! ### A step and a run over listed turns (R9, R47) -/

section Runs

variable {s t : State}

theorem Env.turn_turns (e : Env) : e.turn.2.turns = e.turns.tail := by
  unfold Env.turn
  split <;> simp [*]

/-- Fetching changes at most the environment, and neither its time nor its turns (R105, R137). -/
theorem State.fetch_snd (s : State) :
    ∃ e, s.fetch.2 = { s with env := e } ∧ e.time = s.env.time ∧ e.turns = s.env.turns := by
  by_cases latched : s.irqPendA = true ∨ s.irqPendJ = true
  · obtain ⟨l, e, fetched, -, htime, hturns, -⟩ := State.fetch_irq latched
    exact ⟨e, congrArg Prod.snd fetched, htime, hturns⟩
  · obtain ⟨ha, hj⟩ := not_or.1 latched
    have fetched := State.fetch_seq (Bool.eq_false_iff.2 ha) (Bool.eq_false_iff.2 hj)
    exact ⟨s.env, congrArg Prod.snd fetched, rfl, rfl⟩

/-- A step is an event or an operation's effect on the state whose environment has given its turn, and a pick if one
was asked for; the true time is still the same there. -/
theorem step_effect_cases (h : step s = .next t) :
    ∃ e : Env, e.time = s.env.time ∧ e.turns = s.env.turns.tail ∧
      ((∃ ev, s.env.turn.1 = .env ev ∧ t = State.onEvent ev { s with env := e }) ∨
        ∃ i, t = effect i { s with env := e }) := by
  obtain ⟨-, ⟨ev, turn, rfl⟩ | ⟨i, -, -, hexec⟩⟩ := step_cases h
  · exact ⟨s.env.turn.2, s.env.turn_time, s.env.turn_turns, .inl ⟨ev, turn, rfl⟩⟩
  · obtain ⟨-, rfl⟩ := exec_eq_next_iff.1 hexec
    obtain ⟨e, fetched, htime, hturns⟩ := s.takeTurn.2.fetch_snd
    exact ⟨e, htime.trans s.env.turn_time, hturns.trans s.env.turn_turns, .inr ⟨i, congrArg (effect i) fetched⟩⟩

/-- No event sets the time back or changes the turns; reset keeps both (R47, R156). -/
theorem State.onEvent_env (ev : EnvEvent) (s : State) :
    s.env.time ≤ (s.onEvent ev).env.time ∧ (s.onEvent ev).env.turns = s.env.turns := by
  cases ev with
  | time us => exact ⟨Nat.le_add_right _ _, rfl⟩
  | _ => exact ⟨le_rfl, rfl⟩

/-- A step takes one turn off the list and never sets the time back. -/
theorem step_env (h : step s = .next t) : s.env.time ≤ t.env.time ∧ t.env.turns = s.env.turns.tail := by
  obtain ⟨e, htime, hturns, ⟨ev, -, rfl⟩ | ⟨i, rfl⟩⟩ := step_effect_cases h
  · obtain ⟨time_le, turns_eq⟩ := State.onEvent_env ev { s with env := e }
    exact ⟨htime.symm.le.trans time_le, turns_eq.trans hturns⟩
  · obtain ⟨time_eq, turns_eq, -⟩ := effect_env_frame i { s with env := e }
    exact ⟨(time_eq.trans htime).symm.le, turns_eq.trans hturns⟩

/-- What every step but a reset keeps holds at the end of every run over listed turns without a reset. -/
theorem run_keeps_of_no_reset {P : State → Prop}
    (kept : ∀ {u v : State}, P u → u.env.turn.1 ≠ .env .rst → step u = .next v → P v) {k : Nat} (hs : P s)
    (listed : k ≤ s.env.turns.length) (no_reset : Turn.env .rst ∉ s.env.turns)
    (hrun : Host.Core.run Sys2Proof.core k s = .next t) : P t := by
  induction k generalizing s with
  | zero => exact Host.Outcome.next.inj hrun ▸ hs
  | succ k ih =>
    obtain ⟨u, hstep, hrest⟩ := run_succ_cases hrun
    obtain ⟨-, turns_eq⟩ := step_env hstep
    cases hturns : s.env.turns with
    | nil => simp [hturns] at listed
    | cons turn rest =>
      rw [hturns] at listed no_reset turns_eq
      obtain ⟨first, later⟩ := not_or.1 (List.mem_cons.not.1 no_reset)
      have taken : s.env.turn.1 ≠ .env .rst := by
        rw [Env.turn_cons hturns]
        exact Ne.symm first
      refine ih (kept hs taken hstep) ?_ ?_ hrest <;> rw [turns_eq]
      · exact Nat.le_of_succ_le_succ listed
      · exact later

end Runs

/-! ### The debounce in every run (R14, R102)

Until the debounce time is over every edge of the line is rejected, so no step but a reset writes what the line's
service guards. -/

/-- What only an accepted edge of a line writes (R103, R104). -/
def guarded : Line → List Reg
  | .a => [.lastA, .pwmEnabled]
  | .j => [.lastJ, .borderThick, .ind]

/-- The counter at a line's last accepted edge (R14). -/
def State.lastEdge (s : State) : Line → Stamp
  | .a => s.lastA
  | .j => s.lastJ

/-- The two states agree on what the line's service guards. -/
def SameGuarded (l : Line) (s t : State) : Prop := ∀ r ∈ guarded l, t.regVal r = s.regVal r

section Debounce

variable {l : Line} {s t u v : State} {T0 : Nat}

theorem sameGuarded_a_iff : SameGuarded .a s t ↔ t.lastA = s.lastA ∧ t.pwmEnabled = s.pwmEnabled := by
  simp [SameGuarded, guarded, State.regVal, BitVec.toNat_inj, bool_toNat_inj]

theorem sameGuarded_j_iff :
    SameGuarded .j s t ↔ t.lastJ = s.lastJ ∧ t.borderThick = s.borderThick ∧ t.ind = s.ind := by
  simp [SameGuarded, guarded, State.regVal, BitVec.toNat_inj, bool_toNat_inj]

theorem SameGuarded.trans (hst : SameGuarded l s t) (htu : SameGuarded l t u) : SameGuarded l s u :=
  fun r hr => (htu r hr).trans (hst r hr)

theorem SameGuarded.lastEdge_eq (h : SameGuarded l s t) : t.lastEdge l = s.lastEdge l := by
  cases l with
  | a => exact (sameGuarded_a_iff.1 h).1
  | j => exact (sameGuarded_j_iff.1 h).1

theorem sameGuarded_setPending (l l' : Line) (b : Bool) (s : State) : SameGuarded l s (s.setPending l' b) := by
  cases l' <;> cases l <;> simp [sameGuarded_a_iff, sameGuarded_j_iff]

/-- No operation but the line's service writes what it guards. -/
theorem guarded_notMem_writesOf {i : Instr} (h : i ≠ l.service) : ∀ r ∈ guarded l, r ∉ writesOf i := by
  revert h
  cases l <;> cases i <;> decide

/-- An edge that comes too early is rejected: its service only clears the latch. -/
theorem effect_service_of_early (h : elapsed s.now (s.lastEdge l) < 200000) :
    effect l.service s = s.setPending l false := by
  cases l with
  | a => exact congrArg (State.setPending .a false) (s.serveA_cases.resolve_left fun late => h.not_ge late.1).2
  | j => exact congrArg (State.setPending .j false) (s.serveJ_cases.resolve_left fun late => h.not_ge late.1).2

theorem effect_sameGuarded_of_early (i : Instr) (h : elapsed s.now (s.lastEdge l) < 200000) :
    SameGuarded l s (effect i s) := by
  by_cases service : i = l.service
  · rw [service, effect_service_of_early h]
    exact sameGuarded_setPending l l false s
  · exact fun r hr => effect_regVal_of_notMem s (guarded_notMem_writesOf service r hr)

/-- Of the environment's events only reset writes what a service guards (R100, R47, R155). -/
theorem onEvent_sameGuarded {ev : EnvEvent} (h : ev ≠ .rst) (s : State) : SameGuarded l s (s.onEvent ev) := by
  cases ev with
  | edga => exact sameGuarded_setPending l .a true s
  | edgj => exact sameGuarded_setPending l .j true s
  | time us => exact fun _ _ => rfl
  | rst => exact absurd rfl h

theorem step_sameGuarded_of_early (hstep : step s = .next t) (no_reset : s.env.turn.1 ≠ .env .rst)
    (h : elapsed s.now (s.lastEdge l) < 200000) : SameGuarded l s t := by
  obtain ⟨e, htime, -, ⟨ev, turn, rfl⟩ | ⟨i, rfl⟩⟩ := step_effect_cases hstep
  · have event : ev ≠ .rst := fun reset => no_reset (reset ▸ turn)
    exact onEvent_sameGuarded event { s with env := e }
  · have same_now : State.now { s with env := e } = s.now := congrArg (BitVec.ofNat 32) htime
    exact effect_sameGuarded_of_early (s := { s with env := e }) i (same_now ▸ h)

/-- The debounce invariant of a run from `s`, whose stamp was taken at true time `T0`: until the debounce time after
`T0` is over, what the line's service guards is as in `s`. -/
structure Debounced (l : Line) (T0 : Nat) (s u : State) : Prop where
  since : T0 ≤ u.env.time
  held : u.env.time < T0 + 200000 → SameGuarded l s u

/-- The counter shows no more than the true time since `T0`, so an edge within the debounce time is early. -/
theorem Debounced.step (stamp : s.lastEdge l = BitVec.ofNat 32 T0) (h : Debounced l T0 s u)
    (no_reset : u.env.turn.1 ≠ .env .rst) (hstep : step u = .next v) : Debounced l T0 s v := by
  obtain ⟨time_le, -⟩ := step_env hstep
  refine ⟨h.since.trans time_le, fun within => ?_⟩
  have same := h.held (by omega)
  have early : elapsed u.now (u.lastEdge l) < 200000 := by
    rw [same.lastEdge_eq, stamp]
    exact (elapsed_le h.since).trans_lt (by omega)
  exact same.trans (step_sameGuarded_of_early hstep no_reset early)

/-- Either button is debounced in every run over listed turns without a reset. -/
theorem run_sameGuarded {k : Nat} (stamp : s.lastEdge l = BitVec.ofNat 32 T0) (since : T0 ≤ s.env.time)
    (listed : k ≤ s.env.turns.length) (no_reset : Turn.env .rst ∉ s.env.turns)
    (hrun : Host.Core.run Sys2Proof.core k s = .next t) (within : t.env.time < T0 + 200000) : SameGuarded l s t :=
  have start : Debounced l T0 s s := ⟨since, fun _ _ _ => rfl⟩
  (run_keeps_of_no_reset (Debounced.step stamp) start listed no_reset hrun).held within

end Debounce

/-! ### The statements on runs -/

/-- Settles O56: the debounce invariant of line A, by induction on the run. -/
theorem buttonAIsDebounced : Obligations.ButtonAIsDebounced := by
  intro s t k T0 _ stamp since listed no_reset hrun within
  exact (sameGuarded_a_iff.1 (run_sameGuarded (l := .a) stamp since listed no_reset hrun within)).symm

/-- Settles O57: the debounce invariant of line J, by induction on the run. -/
theorem joystickButtonIsDebounced : Obligations.JoystickButtonIsDebounced := by
  intro s t k T0 _ stamp since listed no_reset hrun within
  obtain ⟨last, thick, ind⟩ :=
    sameGuarded_j_iff.1 (run_sameGuarded (l := .j) stamp since listed no_reset hrun within)
  exact ⟨thick, ind, last⟩

end Sys2Proof.Machine
end

section
/-! PROOFS. The render step (spec/44_render_step.md): the effect of RNDR (R115), and the pulse invariant (R57, R115,
R128), which every step of the block or the environment keeps: of the sequence of operations RNDR and DIAG alone emit,
and the phases between them are those in which the `Render` pulses are one ahead. -/

namespace Sys2Proof.Machine

open Sys2Proof

/-! ### The statement on the operation -/

/-- Settles O24: the effect of RNDR is one emitted scene, then the phase after the render. -/
theorem rndrHandsSceneOver : Obligations.RndrHandsSceneOver :=
  ⟨decode_encode .rndr, fun _ hw => exec_eq_next_iff.2 ⟨hw, rfl⟩⟩

section Pulses

variable {s t : State} {i : Instr}

/-! ### The pulses an operation adds -/

/-- By how many `Render` pulses the phase has the trace ahead of the `Diag` pulses: the count part of `PulseInv`. -/
def renderLead (ph : Phase) : Nat := if 7 ≤ ph.toNat ∧ ph.toNat ≤ 11 then 1 else 0

theorem effect_outCount (i : Instr) (s : State) (p : OutEvent → Bool) :
    (effect i s).outCount p = s.outCount p + (s.emitted i).countP p := by
  rw [State.outCount, effect_out, List.filter_append, List.length_append, State.outCount, List.countP_eq_length_filter]

/-- The phase after the render is a legal one with the render ahead, with RESAMPLE_PWM or without (R120). -/
theorem State.afterRender_lead (s : State) : s.afterRender.toNat < 14 ∧ renderLead s.afterRender = 1 := by
  rcases s.afterRender_cases with ⟨-, next⟩ | ⟨-, next⟩ <;> rw [next] <;> decide

/-- The sequencer's operation of a phase leaves a legal one (R17, R120). -/
theorem effect_ph_legal (hcode : encode i = .seq s.ph) : (effect i s).ph.toNat < 14 := by
  cases i with
  | rndr => exact s.afterRender_lead.1
  | dlyw =>
    change BitVec.toNat (if delayPassed s.now s.tMark then (0 : Phase) else 13) < 14
    split <;> decide
  | irqa | irqj => cases hcode
  | _ => simp [effect]

/-- RNDR raises the lead by the `Render` it emits, DIAG lowers it by its `Diag`, and every other operation of the
sequencer emits nothing and stays on its side of the two. -/
theorem emitted_renderLead (hcode : encode i = .seq s.ph) :
    (s.emitted i).countP isRenderStrobe + renderLead s.ph =
      (s.emitted i).countP isDiagStrobe + renderLead (effect i s).ph := by
  cases i with
  | rndr =>
    rw [← Code.seq.inj hcode]
    change 1 = 0 + renderLead s.afterRender
    rw [s.afterRender_lead.2]
  | dlyw =>
    rw [← Code.seq.inj hcode]
    change 0 = 0 + renderLead (if delayPassed s.now s.tMark then 0 else 13)
    split <;> rfl
  | irqa | irqj => cases hcode
  | _ =>
    rw [← Code.seq.inj hcode]
    rfl

/-! ### The invariant through a step -/

namespace PulseInv

/-- The invariant speaks of the configuration, the phase and the output trace alone. -/
theorem of_same (h : PulseInv s) (hcfg : t.cfg = s.cfg) (hph : t.ph = s.ph) (hout : t.out = s.out) : PulseInv t where
  configured := hcfg ▸ h.configured
  phase := hph ▸ h.phase
  count := by
    rw [State.outCount, State.outCount, hph, hout]
    exact h.count

/-- The values of reset, under any well-formed configuration and in any environment: the emptied trace has no pulse
and phase 0 has no lead (R155, log entry 7). -/
theorem at_initial {c : Config} (hw : c.wellFormed = true) (e : Env) : PulseInv (State.initial c e) where
  configured := hw
  phase := by simp [State.initial]
  count := rfl

theorem after_event (h : PulseInv s) (e : EnvEvent) : PulseInv (s.onEvent e) := by
  cases e with
  | rst => exact at_initial h.configured s.env
  | _ => exact h.of_same rfl rfl rfl

/-- The sequencer's operation of the phase: both counts grow by what it emits, and the lead by their difference. -/
theorem after_sequencer (h : PulseInv s) (hcode : encode i = .seq s.ph) : PulseInv (effect i s) where
  configured := effect_cfg i s ▸ h.configured
  phase := effect_ph_legal hcode
  count := by
    have counted : s.outCount isRenderStrobe = s.outCount isDiagStrobe + renderLead s.ph := h.count
    have lead := emitted_renderLead hcode
    change _ = _ + renderLead (effect i s).ph
    rw [effect_outCount, effect_outCount]
    omega

/-- A service, at any phase: the dispatcher neither emits nor writes the phase (R141). -/
theorem after_service (h : PulseInv s) (hdisp : i.agent = .disp) : PulseInv (effect i s) := by
  have hph := effect_regVal_of_barred s hdisp .ph (by decide)
  exact h.of_same (effect_cfg i s) (BitVec.eq_of_toNat_eq hph) (effect_out_env_of_agent_disp s hdisp).1

end PulseInv

end Pulses

/-! ### The statement on steps -/

/-- Settles O52: the step is an event of the environment, the sequencer's operation of the phase, or a service. -/
theorem pulseInvKept : Obligations.PulseInvKept := by
  intro s t h hstep
  have held : PulseInv s.takeTurn.2 := h.of_same rfl rfl rfl
  obtain ⟨-, ⟨e, -, rfl⟩ | ⟨i, -, hdecode, hexec⟩⟩ := step_cases hstep
  · exact held.after_event e
  · obtain ⟨-, rfl⟩ := exec_eq_next_iff.1 hexec
    rcases fetched_cases hdecode with ⟨hcode, fetched⟩ | ⟨hdisp, e, fetched⟩ <;> rw [fetched]
    · exact held.after_sequencer hcode
    · exact PulseInv.after_service (held.of_same rfl rfl rfl) hdisp

end Sys2Proof.Machine
end

section
/-! PROOFS. The main loop (spec/45_main_loop.md): DIAG, DLYS and DLYW (R128, R130, R131), what the block's turn runs and
the phase sequence (R120, R121), the runs that never stop (R132, R135), and, in every run without reset, the end-of-tick
delay and the spacing of the renders that follows from it (R131, R133). -/

namespace Sys2Proof.Machine

open Sys2Proof

/-! ### The operations of the loop (R128, R130, R131) -/

/-- The delay ends exactly when the counter has moved on by TICK_DELAY_US (R131). -/
theorem effect_dlyw_ph (s : State) :
    (effect .dlyw s).ph = if 50000 ≤ elapsed s.now s.tMark then 0 else 13 := by
  simp only [effect, State.goto_ph, delayPassed_iff]

/-- Settles O27: the effect of DIAG is one emitted strobe, then phase 12. -/
theorem diagPulses : Obligations.DiagPulses :=
  ⟨decode_encode .diag, fun _ hw => exec_eq_next_iff.2 ⟨hw, rfl⟩⟩

/-- Settles O28: the effect of DLYS is the counter's reading in `t_mark`, then phase 13. -/
theorem dlysMarksTime : Obligations.DlysMarksTime :=
  ⟨decode_encode .dlys, fun _ hw => exec_eq_next_iff.2 ⟨hw, rfl⟩⟩

/-- Settles O29: the effect of DLYW is a move to the phase that the delay's test selects. -/
theorem dlywWaits : Obligations.DlywWaits :=
  ⟨decode_encode .dlyw, fun s hw =>
    exec_eq_next_iff.2 ⟨hw, congrArg (fun next : Phase => { s with ph := next }) (effect_dlyw_ph s)⟩⟩

/-! ### What each turn runs (R9, R105, R120, R121) -/

section Turns

variable {s : State}

/-- No two operations have one code (R63). -/
theorem encode_injective : Function.Injective encode := fun i j h =>
  Except.ok.inj ((decode_encode i).symm.trans ((congrArg decode h).trans (decode_encode j)))

theorem exists_encode_eq_seq {b : Phase} (h : b.toNat < 14) : ∃ i, encode i = .seq b := by
  cases hdecode : decodeSeq b with
  | ok i => exact ⟨i, encode_of_decodeSeq hdecode⟩
  | error reject =>
    have reserved := (decodeSeq_eq_error_iff b).1 hdecode
    omega

theorem service_agent (l : Line) : l.service.agent = .disp := by
  cases l <;> rfl

theorem step_of_event {ev : EnvEvent} (hw : s.cfg.wellFormed = true) (turn : s.env.turn.1 = .env ev) :
    step s = .next (s.takeTurn.2.onEvent ev) := by
  rw [step, State.configured_of_wellFormed hw, State.takeTurn_fst, turn]

/-- The block's turn runs the operation of the code it fetches. -/
theorem step_of_fetch {i : Instr} (hw : s.cfg.wellFormed = true) (turn : s.env.turn.1 = .block)
    (fetched : s.takeTurn.2.fetch.1 = encode i) : step s = .next (effect i s.takeTurn.2.fetch.2) := by
  obtain ⟨e, same, -⟩ := s.takeTurn.2.fetch_snd
  rw [stepRunsDecodedOperation s i hw turn (by rw [fetched, decode_encode])]
  exact exec_eq_next_iff.2 ⟨by rw [same]; exact hw, rfl⟩

/-- With a latch set the block's turn serves a line whose latch is set (R105, R121). -/
theorem step_of_latch (hw : s.cfg.wellFormed = true) (turn : s.env.turn.1 = .block)
    (latched : s.irqPendA = true ∨ s.irqPendJ = true) :
    ∃ (l : Line) (e : Env), s.pending l = true ∧ e.turns = s.env.turns.tail ∧ e.time = s.env.time ∧
      step s = .next (effect l.service { s with env := e }) := by
  obtain ⟨l, e, fetched, set, htime, hturns, -⟩ := State.fetch_irq (s := s.takeTurn.2) latched
  refine ⟨l, e, set, hturns.trans s.env.turn_turns, htime.trans s.env.turn_time, ?_⟩
  rw [step_of_fetch hw turn ((congrArg Prod.fst fetched).trans (encode_service l).symm), fetched]
  rfl

/-- With no latch set the block's turn runs the operation of the phase (R120). -/
theorem step_of_phase {i : Instr} (hw : s.cfg.wellFormed = true) (turn : s.env.turn.1 = .block)
    (ha : s.irqPendA = false) (hj : s.irqPendJ = false) (hcode : encode i = .seq s.ph) :
    step s = .next (effect i s.takeTurn.2) := by
  have fetched := State.fetch_seq (s := s.takeTurn.2) ha hj
  rw [step_of_fetch hw turn ((congrArg Prod.fst fetched).trans hcode.symm), fetched]

end Turns

/-! ### The statements on one step -/

/-- Settles O39: the step is a service, which clears its own latch and writes nothing of the sequencer. -/
theorem setLatchHoldsSequencer : Obligations.SetLatchHoldsSequencer := by
  intro s rest hw hturns latched
  obtain ⟨l, e, set, eturns, -, hstep⟩ := step_of_latch hw (by rw [Env.turn_cons hturns]) latched
  obtain ⟨-, kept⟩ := contextsWriteApart l.service { s with env := e } _ (exec_eq_next_iff.2 ⟨hw, rfl⟩)
  obtain ⟨hph, hrx, hry, hsx, hsy, hdx, hdy, hmark, hsel, -, hout, henv⟩ := kept (service_agent l)
  refine ⟨_, hstep, ?_, hph, hrx, hry, hsx, hsy, hdx, hdy, hmark, hsel, hout, ?_, effect_cfg _ _⟩
  · have cleared := effect_service_pending l { s with env := e }
    cases l with
    | a => exact .inl ⟨set, cleared⟩
    | j => exact .inr ⟨set, cleared⟩
  · rw [henv, eturns, hturns]
    rfl

/-- Except after the render and in the delay the next phase is the one that follows in number (R120). -/
theorem effect_ph_succ {i : Instr} {s : State} (hcode : encode i = .seq s.ph) (render : s.ph ≠ 6)
    (delay : s.ph ≠ 13) : (effect i s).ph.toNat = s.ph.toNat + 1 := by
  cases i with
  | rndr => exact absurd (Code.seq.inj hcode).symm render
  | dlyw => exact absurd (Code.seq.inj hcode).symm delay
  | irqa | irqj => cases hcode
  | _ =>
    rw [← Code.seq.inj hcode]
    rfl

/-- Settles O47: RNDR's phase, the delay's test, and the next number at every other operation. -/
theorem phaseSequence : Obligations.PhaseSequence := by
  intro s rest hw hturns ha hj legal
  obtain ⟨i, hcode⟩ := exists_encode_eq_seq legal
  refine ⟨_, step_of_phase hw (by rw [Env.turn_cons hturns]) ha hj hcode, fun render => ?_, fun delay => ?_,
    effect_ph_succ (s := s.takeTurn.2) hcode⟩
  · obtain rfl : i = .rndr := encode_injective (hcode.trans (congrArg Code.seq render))
    rfl
  · obtain rfl : i = .dlyw := encode_injective (hcode.trans (congrArg Code.seq delay))
    rw [effect_dlyw_ph, State.takeTurn_snd, Env.turn_cons hturns]
    rfl

/-! ### What leaves the sequencer where it is (R100, R141) -/

section LoopKept

variable {s t u : State} {i : Instr}

/-- Nothing that the loop's own progress is made of has moved from `s` to `t`; true time may have. -/
structure LoopKept (s t : State) : Prop where
  cfg : t.cfg = s.cfg
  ph : t.ph = s.ph
  tMark : t.tMark = s.tMark
  out : t.out = s.out
  time_le : s.env.time ≤ t.env.time

theorem LoopKept.trans (hst : LoopKept s t) (htu : LoopKept t u) : LoopKept s u where
  cfg := htu.cfg.trans hst.cfg
  ph := htu.ph.trans hst.ph
  tMark := htu.tMark.trans hst.tMark
  out := htu.out.trans hst.out
  time_le := hst.time_le.trans htu.time_le

theorem loopKept_with_env {e : Env} (h : e.time = s.env.time) : LoopKept s { s with env := e } :=
  ⟨rfl, rfl, rfl, rfl, h.ge⟩

theorem loopKept_event {ev : EnvEvent} (h : ev ≠ .rst) (s : State) : LoopKept s (s.onEvent ev) := by
  obtain ⟨time_le, -⟩ := State.onEvent_env ev s
  cases ev with
  | rst => exact absurd rfl h
  | _ => exact ⟨rfl, rfl, rfl, rfl, time_le⟩

theorem loopKept_service (hdisp : i.agent = .disp) (s : State) : LoopKept s (effect i s) := by
  have kept := effect_regVal_of_barred s hdisp
  obtain ⟨hout, henv⟩ := effect_out_env_of_agent_disp s hdisp
  exact ⟨effect_cfg i s, BitVec.eq_of_toNat_eq (kept .ph (by decide)),
    BitVec.eq_of_toNat_eq (kept .tMark (by decide)), hout, (congrArg Env.time henv).ge⟩

/-- A step other than a reset leaves the loop where it is or is the sequencer's operation of the phase, at the same true
time. -/
theorem step_loop_cases (hstep : step s = .next t) (no_reset : s.env.turn.1 ≠ .env .rst) :
    LoopKept s t ∨ ∃ i u, LoopKept s u ∧ u.env.time = s.env.time ∧ encode i = .seq u.ph ∧ t = effect i u := by
  have taken : LoopKept s s.takeTurn.2 := loopKept_with_env s.env.turn_time
  obtain ⟨-, ⟨ev, turn, rfl⟩ | ⟨i, -, hdecode, hexec⟩⟩ := step_cases hstep
  · have event : ev ≠ .rst := fun reset => no_reset (reset ▸ turn)
    exact .inl (taken.trans (loopKept_event event _))
  · obtain ⟨-, rfl⟩ := exec_eq_next_iff.1 hexec
    rcases fetched_cases hdecode with ⟨hcode, fetched⟩ | ⟨hdisp, -⟩
    · exact .inr ⟨i, s.takeTurn.2, taken, s.env.turn_time, hcode, by rw [fetched]⟩
    · obtain ⟨e, fetched, htime, -⟩ := s.takeTurn.2.fetch_snd
      rw [fetched]
      exact .inl ((taken.trans (loopKept_with_env htime)).trans (loopKept_service hdisp _))

end LoopKept

/-! ### Runs never stop (R132, R135) -/

section Runnable

variable {s t : State} {i : Instr}

/-- What a state needs so that each step answers a next state; every step keeps it. -/
structure Runnable (s : State) : Prop where
  configured : s.cfg.wellFormed = true
  phase : s.ph.toNat < 14

namespace Runnable

theorem of_loopKept (h : Runnable s) (kept : LoopKept s t) : Runnable t :=
  ⟨kept.cfg ▸ h.configured, kept.ph ▸ h.phase⟩

theorem after_event (h : Runnable s) (ev : EnvEvent) : Runnable (s.onEvent ev) := by
  by_cases reset : ev = .rst
  · subst reset
    exact ⟨h.configured, by simp [State.onEvent, State.initial]⟩
  · exact h.of_loopKept (loopKept_event reset s)

theorem after_sequencer (h : Runnable s) (hcode : encode i = .seq s.ph) : Runnable (effect i s) :=
  ⟨effect_cfg i s ▸ h.configured, effect_ph_legal hcode⟩

/-- Progress and preservation: an event, a service while a latch is set, else the operation of the legal phase. -/
theorem exists_step (h : Runnable s) : ∃ t, step s = .next t ∧ Runnable t := by
  have taken : Runnable s.takeTurn.2 := ⟨h.configured, h.phase⟩
  cases turn : s.env.turn.1 with
  | env ev => exact ⟨_, step_of_event h.configured turn, taken.after_event ev⟩
  | block =>
    by_cases latched : s.irqPendA = true ∨ s.irqPendJ = true
    · obtain ⟨l, e, -, -, htime, hstep⟩ := step_of_latch h.configured turn latched
      exact ⟨_, hstep, h.of_loopKept ((loopKept_with_env htime).trans (loopKept_service (service_agent l) _))⟩
    · obtain ⟨ha, hj⟩ := not_or.1 latched
      obtain ⟨i, hcode⟩ := exists_encode_eq_seq h.phase
      exact ⟨_, step_of_phase h.configured turn (Bool.eq_false_iff.2 ha) (Bool.eq_false_iff.2 hj) hcode,
        taken.after_sequencer hcode⟩

theorem exists_run (h : Runnable s) (k : Nat) : ∃ t, Host.Core.run Sys2Proof.core k s = .next t := by
  induction k generalizing s with
  | zero => exact ⟨s, rfl⟩
  | succ k ih =>
    obtain ⟨u, hstep, hu⟩ := h.exists_step
    rw [run_succ_of_step hstep]
    exact ih hu

end Runnable

end Runnable

/-- Settles O53: progress and preservation along the run. -/
theorem runsNeverStop : Obligations.RunsNeverStop :=
  fun _ hw hph k => Runnable.exists_run ⟨hw, hph⟩ k

/-! ### The end-of-tick delay in every run (R131, R133)

The counter never shows more time than has passed, so until TICK_DELAY_US of true time after the mark every DLYW
leaves the sequencer in phase 13, wraps or not. -/

section Delay

variable {s t : State} {i : Instr} {T0 : Nat}

/-- What is kept while the loop stays where it is, and by the sequencer's operations before a deadline, holds at the
end of every run without a reset that ends before the deadline. -/
theorem run_keeps_until {P : State → Prop} {deadline : Nat} (idle : ∀ {u v : State}, P u → LoopKept u v → P v)
    (sequencer : ∀ {u : State} {i : Instr}, P u → u.env.time < deadline → encode i = .seq u.ph → P (effect i u))
    {k : Nat} (hs : P s) (listed : k ≤ s.env.turns.length) (no_reset : Turn.env .rst ∉ s.env.turns)
    (hrun : Host.Core.run Sys2Proof.core k s = .next t) (within : t.env.time < deadline) : P t := by
  refine run_keeps_of_no_reset (P := fun u => u.env.time < deadline → P u) ?_ (fun _ => hs) listed no_reset hrun
    within
  intro u v hu taken hstep hv
  have early : u.env.time < deadline := (step_env hstep).1.trans_lt hv
  rcases step_loop_cases hstep taken with kept | ⟨i, w, kept, same_time, hcode, rfl⟩
  · exact idle (hu early) kept
  · exact sequencer (idle (hu early) kept) (same_time ▸ early) hcode

/-- In the delay of phase 13, with a mark taken at a true time from `T0` on. -/
structure Delaying (T0 : Nat) (u : State) : Prop where
  phase : u.ph = 13
  mark : ∃ T1, T0 ≤ T1 ∧ T1 ≤ u.env.time ∧ u.tMark = BitVec.ofNat 32 T1

namespace Delaying

theorem of_loopKept (h : Delaying T0 s) (kept : LoopKept s t) : Delaying T0 t := by
  obtain ⟨T1, since, past, mark⟩ := h.mark
  exact ⟨kept.ph.trans h.phase, T1, since, past.trans kept.time_le, kept.tMark.trans mark⟩

theorem elapsed_lt (h : Delaying T0 s) (early : s.env.time < T0 + 50000) : elapsed s.now s.tMark < 50000 := by
  obtain ⟨T1, since, past, mark⟩ := h.mark
  rw [mark]
  exact (elapsed_le past).trans_lt (by omega)

/-- The one operation of phase 13 is DLYW, and its test fails. -/
theorem after_sequencer (h : Delaying T0 s) (early : s.env.time < T0 + 50000) (hcode : encode i = .seq s.ph) :
    Delaying T0 (effect i s) := by
  obtain rfl : i = .dlyw := encode_injective (hcode.trans (congrArg Code.seq h.phase))
  exact ⟨(effect_dlyw_ph s).trans (if_neg (h.elapsed_lt early).not_ge), h.mark⟩

end Delaying

/-! ### The spacing of the renders in every run (R133) -/

/-- RNDR alone pulses `render_strobe` (R115). -/
theorem effect_renderCount_of_ne (h : i ≠ .rndr) (s : State) :
    (effect i s).outCount isRenderStrobe = s.outCount isRenderStrobe := by
  rw [effect_outCount]
  cases i with
  | rndr => exact absurd rfl h
  | _ => rfl

/-- From true time `T0` on, with `n` renders in the trace, on the way from a render to the end of its tick's delay. -/
structure AfterRender (T0 n : Nat) (u : State) : Prop where
  since : T0 ≤ u.env.time
  renders : u.outCount isRenderStrobe = n
  phase : (7 ≤ u.ph.toNat ∧ u.ph.toNat ≤ 12) ∨ Delaying T0 u

namespace AfterRender

variable {n : Nat}

theorem of_loopKept (h : AfterRender T0 n s) (kept : LoopKept s t) : AfterRender T0 n t where
  since := h.since.trans kept.time_le
  renders := by
    rw [State.outCount, kept.out]
    exact h.renders
  phase := by
    rw [kept.ph]
    exact h.phase.imp_right fun delaying => delaying.of_loopKept kept

theorem ph_ne_six (h : AfterRender T0 n s) : s.ph ≠ 6 := by
  intro six
  rcases h.phase with range | delaying
  · simp [six] at range
  · exact absurd (six.symm.trans delaying.phase) (by decide)

/-- The phases from 7 to 12 run one after the other, and the last, DLYS, marks the time that DLYW waits from. -/
theorem after_sequencer (h : AfterRender T0 n s) (early : s.env.time < T0 + 50000) (hcode : encode i = .seq s.ph) :
    AfterRender T0 n (effect i s) := by
  have same_time : (effect i s).env.time = s.env.time := (effect_env_frame i s).1
  have not_render : i ≠ .rndr := by
    rintro rfl
    exact h.ph_ne_six (Code.seq.inj hcode).symm
  refine ⟨same_time ▸ h.since, (effect_renderCount_of_ne not_render s).trans h.renders, ?_⟩
  rcases h.phase with ⟨lo, hi⟩ | delaying
  · by_cases last : s.ph = 12
    · obtain rfl : i = .dlys := encode_injective (hcode.trans (congrArg Code.seq last))
      exact .inr ⟨rfl, s.env.time, h.since, le_rfl, rfl⟩
    · have succ := effect_ph_succ hcode h.ph_ne_six (by rintro thirteen; simp [thirteen] at hi)
      have before : s.ph.toNat ≠ 12 := fun twelve => last (BitVec.eq_of_toNat_eq twelve)
      exact .inl (by omega)
  · exact .inr (delaying.after_sequencer early hcode)

end AfterRender

end Delay

/-! ### The statements on runs -/

/-- Settles O54: a run that ends before the deadline ends in the delay. -/
theorem delayIsNeverShort : Obligations.DelayIsNeverShort := by
  intro s t k T0 _ hph stamp since listed no_reset hrun left
  by_contra short
  have start : Delaying T0 s := ⟨hph, T0, le_rfl, since, stamp⟩
  have held : Delaying T0 t :=
    run_keeps_until Delaying.of_loopKept Delaying.after_sequencer start listed no_reset hrun (not_le.1 short)
  exact left held.phase

/-- Settles O55: a run that ends before the deadline has no more renders than at its start. -/
theorem rendersAreSpaced : Obligations.RendersAreSpaced := by
  intro s t k _ lo hi listed no_reset hrun more
  by_contra short
  have start : AfterRender s.env.time (s.outCount isRenderStrobe) s := ⟨le_rfl, rfl, .inl ⟨lo, hi⟩⟩
  have held : AfterRender s.env.time (s.outCount isRenderStrobe) t :=
    run_keeps_until AfterRender.of_loopKept AfterRender.after_sequencer start listed no_reset hrun (not_le.1 short)
  exact more.ne' held.renders

end Sys2Proof.Machine
end

section
/-! PROOFS. The interrupts (spec/60_exceptions.md): the services of the two lines commute, because each leaves alone
what the other reads and writes, and IRQ_PRIORITY decides between two set latches (R137). -/

namespace Sys2Proof.Machine

open Sys2Proof

/-! ### Operations on disjoint state commute (R137) -/

/-- The 17 registers by name, the wiring, the environment and the trace are the whole state. -/
theorem State.eq_of_regVal {s t : State} (hcfg : s.cfg = t.cfg) (henv : s.env = t.env) (hout : s.out = t.out)
    (hreg : ∀ r, s.regVal r = t.regVal r) : s = t := by
  have word {n : Nat} {v w : BitVec n} : v.toNat = w.toNat → v = w := BitVec.eq_of_toNat_eq
  have flag {b c : Bool} : b.toNat = c.toNat → b = c := bool_toNat_inj.1
  cases s
  cases t
  exact (State.mk.injEq ..).mpr ⟨hcfg, henv, word (hreg .ph), word (hreg .rawX), word (hreg .rawY),
    word (hreg .squareX), word (hreg .squareY), word (hreg .dutyX), word (hreg .dutyY), word (hreg .lastA),
    word (hreg .lastJ), word (hreg .tMark), word (hreg .adcSel), flag (hreg .pwmEnabled), flag (hreg .borderThick),
    flag (hreg .fillVariant), flag (hreg .ind), flag (hreg .irqPendA), flag (hreg .irqPendJ), hout⟩

/-- The first operation writes nothing that the second reads or writes. -/
def LeavesAlone (i k : Instr) : Prop := ∀ r ∈ writesOf i, r ∉ readsOf k ∧ r ∉ writesOf k

section Commute

variable {i k : Instr}

/-- A service that leaves the operation `i` alone changes nothing of what `i` computes. -/
theorem effect_regVal_after_service (s : State) (hdisp : k.agent = .disp) (apart : LeavesAlone k i) {r : Reg}
    (hr : r ∈ writesOf i) : (effect i (effect k s)).regVal r = (effect i s).regVal r := by
  obtain ⟨-, henv⟩ := effect_out_env_of_agent_disp s hdisp
  exact effect_regVal_congr (effect_cfg k s) henv
    (fun q hread => effect_regVal_of_notMem s fun written => (apart q written).1 hread) hr

/-- Services on disjoint state leave the same state in either order: a register that one of them writes has the value
which that one alone computes, and every other register is as before. -/
theorem effect_comm_of_leavesAlone (hi : i.agent = .disp) (hk : k.agent = .disp) (apart_ik : LeavesAlone i k)
    (apart_ki : LeavesAlone k i) (s : State) : effect i (effect k s) = effect k (effect i s) := by
  have untouched {j : Instr} (hj : j.agent = .disp) (u : State) := effect_out_env_of_agent_disp u hj
  refine State.eq_of_regVal (by simp only [effect_cfg]) ?_ ?_ fun r => ?_
  · rw [(untouched hi _).2, (untouched hk _).2, (untouched hk _).2, (untouched hi _).2]
  · rw [(untouched hi _).1, (untouched hk _).1, (untouched hk _).1, (untouched hi _).1]
  · by_cases by_i : r ∈ writesOf i
    · exact (effect_regVal_after_service s hk apart_ki by_i).trans
        (effect_regVal_of_notMem _ (apart_ik r by_i).2).symm
    · rw [effect_regVal_of_notMem _ by_i]
      by_cases by_k : r ∈ writesOf k
      · exact (effect_regVal_after_service s hi apart_ik by_k).symm
      · rw [effect_regVal_of_notMem _ by_k, effect_regVal_of_notMem _ by_k, effect_regVal_of_notMem _ by_i]

end Commute

/-- The services of the two lines share no register: `last_a` and `pwm_enabled` against `last_j`, `border_thick` and
`ind`, and each its own latch. -/
theorem leavesAlone_service (l : Line) : LeavesAlone l.service l.other.service := by
  unfold LeavesAlone
  cases l <;> decide

/-- Settles O35: the two services are on disjoint state. -/
theorem servicesCommute : Obligations.ServicesCommute := by
  intro s t u hfirst hsecond
  obtain ⟨hw, rfl⟩ := exec_eq_next_iff.1 hfirst
  obtain ⟨-, rfl⟩ := exec_eq_next_iff.1 hsecond
  refine ⟨effect .irqj s, exec_eq_next_iff.2 ⟨hw, rfl⟩, exec_eq_next_iff.2 ⟨by rwa [effect_cfg], ?_⟩⟩
  exact effect_comm_of_leavesAlone rfl rfl (leavesAlone_service .a) (leavesAlone_service .j) s

/-! ### Which of two set latches is served (R137) -/

/-- The step that fetches a line's code clears that line's latch and keeps the other's (R105, R139). -/
theorem step_pending_of_fetch_code {s t : State} {l : Line} (hw : s.cfg.wellFormed = true)
    (turn : s.env.turn.1 = .block) (fetched : s.takeTurn.2.fetch.1 = l.code) (hstep : step s = .next t) :
    t.pending l = false ∧ t.pending l.other = s.pending l.other := by
  have served := (step_of_fetch hw turn (fetched.trans (encode_service l).symm)).symm.trans hstep
  obtain rfl := Host.Outcome.next.inj served
  obtain ⟨e, same, -⟩ := s.takeTurn.2.fetch_snd
  obtain ⟨own, other⟩ := effect_service_pending l s.takeTurn.2.fetch.2
  refine ⟨own, other.trans ?_⟩
  rw [same]
  cases l <;> rfl

/-- Settles O40: the priority, or under ANY the listed pick, names the line whose code is fetched. -/
theorem priorityDecidesLine : Obligations.PriorityDecidesLine := by
  intro s t rest hw hturns ha hj hstep
  have taken : s.env.turn = (.block, { s.env with turns := rest }) := Env.turn_cons hturns
  have both (l : Line) : s.pending l = true := by cases l <;> assumption
  have served (l : Line) (fetched : s.takeTurn.2.fetch.1 = l.code) :
      t.pending l = false ∧ t.pending l.other = true := by
    obtain ⟨own, other⟩ := step_pending_of_fetch_code hw (by rw [taken]) fetched hstep
    exact ⟨own, other.trans (both l.other)⟩
  have by_priority (l : Line) (hprio : s.cfg.irqPriority = l.first) :
      t.pending l = false ∧ t.pending l.other = true :=
    served l (congrArg Prod.fst (State.fetch_service (s := s.takeTurn.2) (both l) (.inr hprio)))
  have by_pick (l : Line) (picks : List Line) (hany : s.cfg.irqPriority = .any) (hpick : s.env.picks = l :: picks) :
      t.pending l = false ∧ t.pending l.other = true := by
    have listed : s.takeTurn.2.env.picks = l :: picks := by
      rw [State.takeTurn_snd, taken]
      exact hpick
    exact served l (congrArg Prod.fst (State.fetch_listed_pick (s := s.takeTurn.2) ha hj hany listed))
  exact ⟨by_priority .a, fun hprio => (by_priority .j hprio).symm, by_pick .a,
    fun picks hany hpick => (by_pick .j picks hany hpick).symm⟩

end Sys2Proof.Machine
end

section
/-! PROOFS. Reset (spec/70_reset_and_hazards.md): the values RST and `State.reset` give (R155, R156), and both
invariants at them. With it what the model itself chose where the spec leaves room: the ADC's listed and drawn answers
(log entries 3 and 11), a placed word as the next operation (log entry 6), the fault at a reserved phase (R64, log
entry 8). -/

namespace Sys2Proof.Machine

open Sys2Proof

/-! ### The values of reset (R155) -/

section Initial

variable (c : Config) (e : Env)

@[simp] theorem State.initial_cfg : (State.initial c e).cfg = c := rfl
@[simp] theorem State.initial_env : (State.initial c e).env = e := rfl
@[simp] theorem State.initial_ph : (State.initial c e).ph = 0 := rfl
@[simp] theorem State.initial_dutyX : (State.initial c e).dutyX = 0 := rfl
@[simp] theorem State.initial_dutyY : (State.initial c e).dutyY = 0 := rfl
@[simp] theorem State.initial_lastA : (State.initial c e).lastA = 0 := rfl
@[simp] theorem State.initial_lastJ : (State.initial c e).lastJ = 0 := rfl
@[simp] theorem State.initial_pwmEnabled : (State.initial c e).pwmEnabled = true := rfl
@[simp] theorem State.initial_borderThick : (State.initial c e).borderThick = false := rfl
@[simp] theorem State.initial_fillVariant : (State.initial c e).fillVariant = c.fillReset := rfl
@[simp] theorem State.initial_ind : (State.initial c e).ind = false := rfl
@[simp] theorem State.initial_irqPendA : (State.initial c e).irqPendA = false := rfl
@[simp] theorem State.initial_irqPendJ : (State.initial c e).irqPendJ = false := rfl
@[simp] theorem State.initial_out : (State.initial c e).out = [] := rfl

/-- With no latch set the context is the sequencer's (R141). -/
@[simp] theorem State.initial_context : (State.initial c e).context = .seq := rfl

end Initial

/-- RST keeps the wiring and the environment, the counter among it, and nothing else (R155, R156). -/
theorem State.onEvent_rst (s : State) : s.onEvent .rst = State.initial s.cfg s.env := rfl

/-- R4's defaults meet R5. -/
theorem default_wellFormed : Config.default.wellFormed = true := by decide

/-- Settles O43: the listed RST is the whole step, and what it leaves is the initial state. -/
theorem resetEventRestores : Obligations.ResetEventRestores := by
  intro s rest hw hturns
  have reset := step_of_listed_event hw hturns
  rw [State.onEvent_rst] at reset
  exact ⟨_, reset, by simp⟩

/-- Settles O44: `State.reset` is the initial state of the default configuration, whose FILL_RESET is 0 (R4). -/
theorem resetValues : Obligations.ResetValues := by
  have fill_default : Config.default.fillReset = false := rfl
  simp [Obligations.ResetValues, State.reset, fill_default]

/-- Settles O49: reset is the initial state under the defaults of R4. -/
theorem sceneInvAtReset : Obligations.SceneInvAtReset :=
  SceneInv.at_initial default_wellFormed Env.initial

/-- Settles O51: reset is the initial state under the defaults of R4. -/
theorem pulseInvAtReset : Obligations.PulseInvAtReset :=
  PulseInv.at_initial default_wellFormed Env.initial

/-! ### A conversion's answer (R44, log entries 3 and 11) -/

section Answers

variable {e : Env} {v : Sample} {rest : List Sample}

theorem Env.adcRead_zero_of_listed (h : e.adc0 = v :: rest) : e.adcRead 0 = (v, { e with adc0 := rest }) := by
  simp [Env.adcRead, h]

theorem Env.adcRead_one_of_listed (h : e.adc1 = v :: rest) : e.adcRead 1 = (v, { e with adc1 := rest }) := by
  simp [Env.adcRead, h]

theorem Env.adcRead_zero_of_unlisted (h : e.adc0 = []) :
    e.adcRead 0 = (Config.adcDraw 0 e.draws, { e with draws := e.draws + 1 }) := by
  simp [Env.adcRead, h]

theorem Env.adcRead_one_of_unlisted (h : e.adc1 = []) :
    e.adcRead 1 = (Config.adcDraw 1 e.draws, { e with draws := e.draws + 1 }) := by
  simp [Env.adcRead, h]

end Answers

/-- Settles O19: each channel answers from its own list, and by a draw where that list is empty. -/
theorem adcAnswersItsChannel : Obligations.AdcAnswersItsChannel := fun _ _ _ =>
  ⟨Env.adcRead_zero_of_listed, Env.adcRead_one_of_listed,
    fun unlisted => congrArg Prod.snd (Env.adcRead_zero_of_unlisted unlisted),
    fun unlisted => congrArg Prod.snd (Env.adcRead_one_of_unlisted unlisted)⟩

/-! ### A placed word (log entry 6) -/

/-- A word the table's reader accepts stands for the code of the operation it reads. -/
theorem codeOfWord_of_decodeTableWord {nbits w : Nat} {i : Instr} (h : decodeTableWord nbits w = some i) :
    codeOfWord nbits w = some (encode i) := by
  unfold decodeTableWord at h
  split at h
  · next c coded =>
    cases hdecode : decode c with
    | ok k =>
      rw [hdecode] at h
      obtain rfl := Option.some.inj h
      rw [coded, encode_of_decode hdecode]
    | error reject =>
      rw [hdecode] at h
      cases h
  · cases h

/-- Where a code is placed is where the block fetches it, and no pick is taken. -/
theorem State.fetch_placeCode (c : Code) (s : State) : (s.placeCode c).fetch = (c, s.placeCode c) := by
  cases c with
  | seq b => rfl
  | irq b => rcases BitVec.eq_zero_or_eq_one b with rfl | rfl <;> rfl

theorem State.placeWord_of_code {nbits w : Nat} {c : Code} (h : codeOfWord nbits w = some c) (s : State) :
    s.placeWord nbits w = s.placeCode c := by
  simp only [State.placeWord, h]

/-- The placing is no write of the wiring. -/
theorem State.placeCode_cfg (c : Code) (s : State) : (s.placeCode c).cfg = s.cfg := by
  cases c <;> rfl

/-- Settles O38: the given turn is the block's, and the code it fetches is the one placed. -/
theorem placedWordRunsNext : Obligations.PlacedWordRunsNext := by
  intro s nbits w i hw hdecode
  have placed := State.placeWord_of_code (codeOfWord_of_decodeTableWord hdecode) s
  have fetched := State.fetch_placeCode (encode i) s
  rw [State.withFetchWord, placed,
    step_of_block_turn (by rwa [State.giveTurn_cfg, State.placeCode_cfg]) (by rw [State.takeTurn_giveTurn]),
    State.takeTurn_giveTurn, blockStep_of_decode (by rw [fetched, decode_encode]), fetched]

/-! ### The reserved phases (R64, log entry 8) -/

theorem blockStep_of_reserved {s : State} (h : decode s.fetch.1 = .error .reservedPhase) :
    blockStep s = .fault .stuckPhase := by
  simp only [blockStep, h]

/-- Settles O46: with no latch set the code fetched is the phase, which is one of the two reserved codes. -/
theorem reservedPhaseIsStuck : Obligations.ReservedPhaseIsStuck := by
  intro s rest hw hturns ha hj hreserved
  have bound := s.ph.isLt
  have rejected : decode (.seq s.ph) = .error .reservedPhase := (decodeSeq_eq_error_iff s.ph).2 (by omega)
  have taken := State.takeTurn_of_listed hturns
  have fetched := State.fetch_seq (s := s.takeTurn.2) ha hj
  rw [step_of_block_turn hw (by rw [taken]), blockStep_of_reserved (by rw [fetched]; exact rejected)]

end Sys2Proof.Machine
end
